-- ==== Sys2Proof/Word.lean ====
section
/-!
DEFINITION. The words of the engine: bytes, 16-bit words, byte sequences, and the identifiers of links and
sessions (00_scope.md R9, R10).
-/

namespace Sys2Proof

/-- A `u8` (R9). -/
abbrev Byte := BitVec 8

/-- A `u16` (R9). -/
abbrev Word16 := BitVec 16

/-- A finite sequence of bytes (R9). -/
abbrev Bytes := List Byte

/-- An opaque identifier of a port or bus (10_state.md R36). DESIGN CHOICE (log entry 4): a number. -/
abbrev LinkId := Nat

/-- The number of a session. DESIGN CHOICE (log entry 3): the spec names no session numbers. -/
abbrev SessId := Nat

end Sys2Proof
end

