-- ==== Sys2Proof/Machine/Assoc.lean ====
section
/-!
DEFINITION. Sparse data by key: a list of key and value pairs, keys strictly rising, no entry equal to the default
an unlisted key reads as. The engine has no random-access memory (20_memory.md R60); queues, sessions, registry
and locks are held in this form.
-/

namespace Sys2Proof.Machine.Assoc

variable {β : Type}

/-- The value listed at a key. -/
def get? (k : Nat) : List (Nat × β) → Option β
  | [] => none
  | (k', v) :: l => if k = k' then some v else get? k l

/-- List a value at a key. -/
def insert (k : Nat) (v : β) : List (Nat × β) → List (Nat × β)
  | [] => [(k, v)]
  | (k', v') :: l =>
    if k < k' then (k, v) :: (k', v') :: l
    else if k = k' then (k, v) :: l
    else (k', v') :: insert k v l

/-- Remove a key. -/
def erase (k : Nat) : List (Nat × β) → List (Nat × β)
  | [] => []
  | (k', v') :: l => if k = k' then erase k l else (k', v') :: erase k l

/-- The value at a key, `d` where the key is not listed. -/
def getD (d : β) (k : Nat) (l : List (Nat × β)) : β :=
  (get? k l).getD d

/-- Write a value at a key; writing the default removes the entry. -/
def put [DecidableEq β] (d : β) (k : Nat) (v : β) (l : List (Nat × β)) : List (Nat × β) :=
  if v = d then erase k l else insert k v l

/-- Every key of the list is above `k`. -/
def above (k : Nat) (l : List (Nat × β)) : Bool :=
  l.all fun e => decide (k < e.1)

/-- The keys are strictly rising. -/
def rising : List (Nat × β) → Bool
  | [] => true
  | e :: l => above e.1 l && rising l

/-- The canonical form for the default `d`. -/
def canonical [DecidableEq β] (d : β) (l : List (Nat × β)) : Bool :=
  rising l && l.all fun e => decide (e.2 ≠ d)

/-- The canonical list that reads as the given pairs, an earlier pair over a later one. -/
def ofList [DecidableEq β] (d : β) : List (Nat × β) → List (Nat × β)
  | [] => []
  | (k, v) :: l => put d k v (ofList d l)

end Sys2Proof.Machine.Assoc
end

