-- ==== Sys2Proof/Config.lean ====
section
/-!
DEFINITION. What an instance of the engine fixes (00_scope.md R7, 10_state.md R37) and the free values: the
constants of the source, the open parameters with the spec's defaults, and the values the spec leaves open.
-/

namespace Sys2Proof

/-- `POLY`: fixed by the source (00_scope.md R7). -/
def poly : Word16 := 0x1021
/-- `SEED`: fixed for every packet (R7). -/
def seed0 : Word16 := 0x0000
/-- `SEP`, the field separator (R7). -/
def sep : Byte := 0x1E
/-- `HDR_LEN` (R7). -/
def hdrLen : Nat := 3
/-- `CK_LEN` (R7). -/
def ckLen : Nat := 2
/-- `ADDR_MAX` (R7). -/
def addrMax : Nat := 0x7F

/-- `BUS_HDR_POLICY` (R7): what the bus does after a header failure. -/
inductive BusHdrPolicy where
  | rewrite
  | readOnly
  deriving DecidableEq, Repr

/-- The open parameters of an instance (00_scope.md R7). They are the configuration registers of 10_state.md R37:
no operation writes them. -/
structure Config where
  /-- `TERM`. -/
  term : Byte
  /-- `MAX_RETRIES`: attempts a call may make, the first included (43_retry_engine.md R232). -/
  maxRetries : Nat
  /-- `T_READ`, a duration, in whole microseconds (DESIGN CHOICE, log entry 36); `none`: unspecified. No rule reads it
  (60_exceptions.md R352). -/
  tRead : Option Nat
  /-- `T_SETTLE`, a duration, in whole microseconds (DESIGN CHOICE, log entry 36); `none`: unspecified. No rule reads it
  (R352). -/
  tSettle : Option Nat
  /-- `CNT_W`. -/
  cntW : Nat
  /-- `RX_CAP`. -/
  rxCap : Option Nat
  /-- `HDR_NAK`, a predicate on a byte, written as the bytes that satisfy it (log entry 20). -/
  hdrNak : List Byte
  /-- `BUS_HDR_POLICY`. -/
  busHdrPolicy : BusHdrPolicy
  deriving DecidableEq, Repr

/-- The value a successful call returns (10_state.md R26, 44_response_parser.md R281). -/
inductive ReturnValue where
  | noValue
  | str (s : Bytes)
  | list (l : List Bytes)
  deriving DecidableEq, Repr, Inhabited

namespace Config

/-- The defaults of 00_scope.md R7. -/
def default : Config where
  term := 0x04
  maxRetries := 3
  tRead := none
  tSettle := none
  cntW := 32
  rxCap := none
  hdrNak := [0x45]
  busHdrPolicy := .rewrite

/-- The legal ranges of 00_scope.md R7, less the condition on `RX_CAP` that depends on the transport kind. A duration
above zero is at least one microsecond, one below a second at most 999999 (log entry 36). -/
def legal (c : Config) : Bool :=
  decide (c.term ≠ sep) && decide (1 ≤ c.maxRetries) && decide (c.maxRetries ≤ 9)
    && (match c.tRead with
        | none => true
        | some t => decide (0 < t) && decide (t < 1000000))
    && (match c.tSettle with
        | none => true
        | some t => decide (0 < t))
    && decide (4 ≤ c.cntW)
    && (match c.rxCap with
        | none => true
        | some n => decide (3 ≤ n))

/-- The condition of R7 on `RX_CAP` for an instance with bus sessions: none, or at least 255. -/
def legalForBus (c : Config) : Bool :=
  match c.rxCap with
  | none => true
  | some n => decide (255 ≤ n)

/-- FREE VALUE (log entry 8): the detail string of the error with no string in the spec, `ENCODE_ERROR`
(60_exceptions.md R337), one for each raising. -/
opaque freeDetail : Nat → Bytes

/-- FREE VALUE (log entry 6): what stands in the transport's queues after `RESET`, which leaves them unspecified
(70_reset_and_hazards.md R380). -/
opaque freeQueues : Nat → List (LinkId × Bytes)

/-- FREE VALUE (log entry 24): what `PARSE_S` gives for a payload that does not begin with `'S'`, for which no rule
states a result (44_response_parser.md R280, R281): of the payload bytes alone (R285). -/
opaque freeParsed : Bytes → ReturnValue

/-- FREE VALUE (log entry 24): what `PARSE_F` gives for a payload that does not begin with `'F'` (R280, R283): of the
payload bytes alone (R285). -/
opaque freeMessage : Bytes → Bytes

end Config

end Sys2Proof
end

