-- ==== Sys2Proof/Syntax.lean ====
section
/-!
DEFINITION. The instructions: one constructor for each row of spec/opcode_table.json, 13 wire rows and 27
operations (30_encoding.md R100 to R111, R116), with the operands of the row's fields.
-/

namespace Sys2Proof

/-- The transport kind of a session (00_scope.md R8). -/
inductive Kind where
  | stream
  | bus
  deriving DecidableEq, Repr

/-- A call argument (41_packet_codec.md R160). -/
inductive Value where
  | bool (t : Bool)
  | int (n : Int)
  | str (s : List Char)
  deriving DecidableEq, Repr

/-- An environment event of the stream synchronizer (20_memory.md R64, R66). `rxByte` takes the oldest byte of the
link's receive queue, so the event names no byte of its own (log entry 29). -/
inductive StreamEvent where
  | rxByte
  | rxTimeout
  | settleDone
  deriving DecidableEq, Repr

/-- The operand of `RD_CNT` (45_host_ops.md R304). -/
inductive Which where
  | readCrcErrors
  | writeCrcErrors
  deriving DecidableEq, Repr

/-- The direction of a stream wire packet: format `WIRE_S` serves both (30_encoding.md R101). -/
inductive Direction where
  | toPeer
  | toEngine
  deriving DecidableEq, Repr

/-- Where a unit of wire bytes stands. The same bytes mean different things in different places (30_encoding.md
R111: direction tells the control packet from a `RESP_E`; R115: header rows are not over a packet), so the decoder
is told the place (log entry 11). -/
inductive Channel where
  /-- A bare packet. -/
  | packet
  /-- A whole stream wire packet, terminator included. -/
  | streamWire (d : Direction)
  /-- The data of one `BusWrite`, as a container. -/
  | busWrite
  /-- The answer to a header read. -/
  | busHeader
  /-- The answer to a body read, as a container. -/
  | busBody
  /-- A packet the engine sends on the stream. -/
  | streamRequest
  /-- A packet the engine sends on the bus. -/
  | busRequest
  /-- A packet the engine has acquired. -/
  | response
  deriving DecidableEq, Repr

/-- A field of a request that ought to be a number. R115 selects a request row whatever stands in its fields (log entry
23). -/
inductive NumField (α : Type) where
  /-- The field is the number, in the form the encoder writes (30_encoding.md R105, R106, R112). -/
  | value (v : α)
  /-- The field is no such form: its bytes, as they stand between separators. -/
  | text (f : Bytes)
  deriving DecidableEq, Repr

/-- The instructions: every row of spec/opcode_table.json. -/
inductive Instr where
  /-- `PKT` (30_encoding.md R100). -/
  | pkt (ck : Word16) (payload : Bytes)
  /-- `WIRE_S` (R101). -/
  | wireS (d : Direction) (ck : Word16) (payload : Bytes)
  /-- `WIRE_B_REQ` (R102). -/
  | wireBReq (ck : Word16) (payload : Bytes)
  /-- `BUS_HDR` (R103). -/
  | busHdr (status length hck : Byte)
  /-- `BUS_HDR_NAK` (42_frame_acquirer.md R204). -/
  | busHdrNak (status length hck : Byte)
  /-- `WIRE_B_BODY` (R104). -/
  | wireBBody (ck : Word16) (payload : Bytes)
  /-- `REQ_S` (R105): the argument fields are the bytes between separators; `fn` is `none` where the payload ends with
  the address field (R115). -/
  | reqS (ck : Word16) (addr : NumField Byte) (fn : Option (NumField Word16)) (args : List Bytes)
  /-- `REQ_B` (R106). -/
  | reqB (ck : Word16) (fn : NumField Word16) (args : List Bytes)
  /-- `RESP_S` (R108): `rest` is the payload after the status byte. -/
  | respS (ck : Word16) (rest : Bytes)
  /-- `RESP_F` (R109). -/
  | respF (ck : Word16) (rest : Bytes)
  /-- `RESP_E` (R110). -/
  | respE (ck : Word16) (rest : Bytes)
  /-- `RESP_RESERVED` (R114 a). -/
  | respReserved (ck : Word16) (status : Byte) (rest : Bytes)
  /-- `RQ_RESEND` (R111). -/
  | rqResend
  /-- `CRC16_INIT` (40_checksum.md R140). -/
  | crc16Init (seed : Word16)
  /-- `CRC16_STEP` (R141). -/
  | crc16Step (b : Byte)
  /-- `CRC16` (R142). -/
  | crc16 (data : Bytes) (seed : Word16)
  /-- `MKPACKET` (R143). -/
  | mkpacket (payload : Bytes)
  /-- `VERIFY` (R144). -/
  | verify (packet : Bytes)
  /-- `FMT_ARG` (41_packet_codec.md R161). -/
  | fmtArg (v : Value)
  /-- `FMT_HEX` (R162). -/
  | fmtHex (n : Word16)
  /-- `FMT_HEX2` (R162). -/
  | fmtHex2 (a : Byte)
  /-- `ENCODE_REQUEST` (R163). -/
  | encodeRequest (address : Option Byte) (fn : Word16) (args : List Value)
  /-- `FRAME_S` (R165). -/
  | frameS (packet : Bytes)
  /-- `DECODE_REQUEST` (R166). -/
  | decodeRequest (packet : Bytes) (kind : Kind)
  /-- `DECODE_RESPONSE` (R169). -/
  | decodeResponse (packet : Bytes)
  /-- `RENDER_FOR_LOG` (R168). -/
  | renderForLog (packet : Bytes)
  /-- `ACQUIRE_STREAM` (42_frame_acquirer.md R190 to R199): the synchronizer takes one event. -/
  | acquireStream (e : StreamEvent)
  /-- `FLUSH_RECOVER` (R196). -/
  | flushRecover
  /-- `BUS_EXCHANGE` (R200 to R206): the exchange takes one step; `answer` is the environment's answer to the bus
  read of that step, where it has one. -/
  | busExchange (answer : Bytes)
  /-- `HDR_CHECK` (R204), on the register `hdr`. -/
  | hdrCheck
  /-- `CLASSIFY` (43_retry_engine.md R236). -/
  | classify
  /-- `PARSE_S` (44_response_parser.md R281). -/
  | parseS (payload : Bytes)
  /-- `PARSE_F` (R283). -/
  | parseF (payload : Bytes)
  /-- `OPEN` (45_host_ops.md R301). -/
  | openSession (kind : Kind) (addr : Byte) (link : LinkId)
  /-- `CLOSE` (R305). -/
  | closeSession
  /-- `CALL` (R302). -/
  | call (fn : Word16) (args : List Value)
  /-- `RD_CNT` (R304). -/
  | rdCnt (which : Which)
  /-- `RD_TRACE` (R306). -/
  | rdTrace
  /-- `RD_DIAG` (R306). -/
  | rdDiag
  /-- `RESET` (70_reset_and_hazards.md R380). -/
  | reset
  deriving DecidableEq, Repr

end Sys2Proof
end

