-- ==== Sys2Proof/Machine/Crc.lean ====
section
/-!
DEFINITION. The arithmetic of the checksum unit (40_checksum.md): the CRC-16/XMODEM register step, the checksum
of a byte sequence, the packet with its checksum in front, verification, and the bus header's complement-of-sum
byte.
-/

namespace Sys2Proof.Machine

/-- `BE16(v)`: bits 15 to 8, then bits 7 to 0 (00_scope.md R10, 20_memory.md R61). -/
def beBytes (v : Word16) : Bytes :=
  [v.extractLsb' 8 8, v.extractLsb' 0 8]

/-- `be16` of two bytes: the first is bits 15 to 8 (R10). -/
def be16 (hi lo : Byte) : Word16 :=
  (hi.setWidth 16 <<< 8) ||| lo.setWidth 16

/-- One iteration of the loop of R141: the test is on bit 15 before the shift. -/
def crcBit (c : Word16) : Word16 :=
  if c.getLsbD 15 then (c <<< 1) ^^^ poly else c <<< 1

/-- `n` iterations of the loop of R141. -/
def crcBits : Nat → Word16 → Word16
  | 0, c => c
  | n + 1, c => crcBits n (crcBit c)

/-- `CRC16_STEP(b)` as a function of the register (R141): the byte lands on bits 15 to 8, then eight iterations. -/
def crcStep (c : Word16) (b : Byte) : Word16 :=
  crcBits 8 (c ^^^ (b.setWidth 16 <<< 8))

/-- `CRC16(data, seed)` (R142): `CRC16_STEP` over the bytes in order, starting from the seed. -/
def crc16 (data : Bytes) (seed : Word16) : Word16 :=
  data.foldl crcStep seed

/-- `MKPACKET(payload)` (R143). -/
def mkPacket (payload : Bytes) : Bytes :=
  beBytes (crc16 payload seed0) ++ payload

/-- `VERIFY(packet)` (R144): false for two bytes or fewer. -/
def verify : Bytes → Bool
  | hi :: lo :: b :: rest => decide (crc16 (b :: rest) seed0 = be16 hi lo)
  | _ => false

/-- `packet[2:]` (00_scope.md R9). -/
def payloadOf (packet : Bytes) : Bytes :=
  packet.drop ckLen

/-- The bus header's checksum byte (R150, 30_encoding.md R103): the complement of the sum, low 8 bits. -/
def headerSum (status length : Byte) : Byte :=
  ~~~(status + length)

end Sys2Proof.Machine
end

