-- ==== Sys2Proof/Machine/Operands.lean ====
section
/-!
DEFINITION. Every operand form of the codec and the parser as a function on bytes: joining and splitting at
`SEP`, hexadecimal and decimal, arguments, request payloads and their inverse, the log form, and the response
parser (00_scope.md R12, 41_packet_codec.md, 44_response_parser.md).
-/

namespace Sys2Proof.Machine

/-- `join(SEP, fields)` (R12). -/
def joinFields : List Bytes → Bytes
  | [] => []
  | [f] => f
  | f :: g :: fs => f ++ sep :: joinFields (g :: fs)

/-- `split(SEP, b)` (R12): always at least one piece, empty pieces kept. -/
def splitFields : Bytes → List Bytes
  | [] => [[]]
  | b :: bs =>
    if b = sep then [] :: splitFields bs
    else
      match splitFields bs with
      | [] => [[b]]
      | f :: fs => (b :: f) :: fs

/-- The lowercase hexadecimal digit of four bits, as ASCII (R162; the codes are 93_implementation_defined.md G1). -/
def hexDigit (d : BitVec 4) : Byte :=
  if d.toNat < 10 then 0x30 + d.setWidth 8 else 0x57 + d.setWidth 8

/-- `FMT_HEX2(a)` (R162). -/
def fmtHex2 (a : Byte) : Bytes :=
  [hexDigit (a.extractLsb' 4 4), hexDigit (a.extractLsb' 0 4)]

/-- `FMT_HEX(n)` (R162): no leading zeros, `"0"` for 0. -/
def fmtHex (n : Word16) : Bytes :=
  let d0 := hexDigit (n.extractLsb' 0 4)
  let d1 := hexDigit (n.extractLsb' 4 4)
  let d2 := hexDigit (n.extractLsb' 8 4)
  let d3 := hexDigit (n.extractLsb' 12 4)
  if n.toNat < 0x10 then [d0]
  else if n.toNat < 0x100 then [d1, d0]
  else if n.toNat < 0x1000 then [d2, d1, d0]
  else [d3, d2, d1, d0]

/-- The decimal digits of `n` in front of `acc`; `fuel` above `n` is enough. -/
def decDigits : Nat → Nat → List Char → List Char
  | 0, _, acc => acc
  | fuel + 1, n, acc =>
    let acc' := Char.ofNat (0x30 + n % 10) :: acc
    if n < 10 then acc' else decDigits fuel (n / 10) acc'

/-- `dec(n)` of a signed integer (R12). -/
def decimal : Int → List Char
  | .ofNat m => decDigits (m + 1) m []
  | .negSucc m => '-' :: decDigits (m + 2) (m + 1) []

/-- `FMT_ARG(v)` (R161): the Boolean case first, integers in decimal, strings unchanged. -/
def fmtArg : Value → List Char
  | .bool true => ['1']
  | .bool false => ['0']
  | .int n => decimal n
  | .str s => s

/-- A character is ASCII: its code is at most `0x7F` (30_encoding.md R112 e). -/
def isAscii (c : Char) : Bool :=
  decide (c.toNat ≤ 0x7F)

/-- `ascii(s)`, one byte per character (R12); meaningful where every character is ASCII. -/
def asciiBytes (s : List Char) : Bytes :=
  s.map fun c => BitVec.ofNat 8 c.toNat

/-- The argument can be rendered (R164 a). -/
def encodable (v : Value) : Bool :=
  (fmtArg v).all isAscii

/-- The fields in front of the arguments (R163): leader and address on the stream, neither on the bus. -/
def headFields (address : Option Byte) (fn : Word16) : List Bytes :=
  match address with
  | some a => [[0x52], fmtHex2 a, fmtHex fn]
  | none => [fmtHex fn]

/-- The payload of `REQ_S` or `REQ_B` (30_encoding.md R105, R106). -/
def requestPayload (address : Option Byte) (fn : Word16) (args : List Bytes) : Bytes :=
  joinFields (headFields address fn ++ args)

/-- The bytes of a number field; `form` writes the number. -/
def fieldBytes {α : Type} (form : α → Bytes) : NumField α → Bytes
  | .value v => form v
  | .text f => f

/-- The payload of a `REQ_S` row (30_encoding.md R105, R115). -/
def streamPayload (addr : NumField Byte) (fn : Option (NumField Word16)) (args : List Bytes) : Bytes :=
  match fn with
  | some n => joinFields ([0x52] :: fieldBytes fmtHex2 addr :: fieldBytes fmtHex n :: args)
  | none => joinFields ([0x52] :: fieldBytes fmtHex2 addr :: args)

/-- The payload of a `REQ_B` row (R106, R115). -/
def busPayload (fn : NumField Word16) (args : List Bytes) : Bytes :=
  joinFields (fieldBytes fmtHex fn :: args)

/-- `ENCODE_REQUEST` (R163, R164): `none` is the refusal `EncodeError`. -/
def encodeRequest (address : Option Byte) (fn : Word16) (args : List Value) : Option Bytes :=
  if args.all encodable then
    some (mkPacket (requestPayload address fn (args.map fun v => asciiBytes (fmtArg v))))
  else none

/-- `FRAME_S(packet)` (R165). -/
def frameS (c : Config) (packet : Bytes) : Bytes :=
  packet ++ [c.term]

/-- The control packet `PACKET_RQ_RESEND` (30_encoding.md R111). -/
def resendPacket : Bytes := [0x18, 0x61, 0x45]

/-- Why `DECODE_REQUEST` refuses (R166). -/
inductive DecodeError where
  | badChecksum
  | malformed
  deriving DecidableEq, Repr

/-- The value of one lowercase hexadecimal digit (R166: upper case is refused). -/
def hexValue (b : Byte) : Option Nat :=
  if 0x30 ≤ b.toNat ∧ b.toNat ≤ 0x39 then some (b.toNat - 0x30)
  else if 0x61 ≤ b.toNat ∧ b.toNat ≤ 0x66 then some (b.toNat - 0x57)
  else none

/-- The value of a digit string in base 16, on top of `acc`. -/
def hexNumber : Nat → Bytes → Option Nat
  | acc, [] => some acc
  | acc, b :: bs =>
    match hexValue b with
    | none => none
    | some d => hexNumber (16 * acc + d) bs

/-- The address field (R166): exactly two digits. -/
def parseHex2 (f : Bytes) : Option Byte :=
  if f.length = 2 then (hexNumber 0 f).map (BitVec.ofNat 8) else none

/-- The function number field (R166): `"0"`, or one to four digits of which the first is not `'0'`. -/
def parseHex (f : Bytes) : Option Word16 :=
  if f = [0x30] ∨ (1 ≤ f.length ∧ f.length ≤ 4 ∧ f.head? ≠ some 0x30) then
    (hexNumber 0 f).map (BitVec.ofNat 16)
  else none

/-- A field that ought to be a number, as `parse` reads it (30_encoding.md R115: the row is a request either way). -/
def numField {α : Type} (parse : Bytes → Option α) (f : Bytes) : NumField α :=
  match parse f with
  | some v => .value v
  | none => .text f

/-- What `DECODE_REQUEST` returns. -/
structure Request where
  address : Option Byte
  fn : Word16
  fields : List Bytes
  deriving DecidableEq, Repr

/-- The fields of a stream request payload (R166). -/
def decodeStreamFields : List Bytes → Except DecodeError Request
  | f0 :: f1 :: f2 :: rest =>
    if f0 = [0x52] then
      match parseHex2 f1, parseHex f2 with
      | some a, some n => .ok ⟨some a, n, rest⟩
      | _, _ => .error .malformed
    else .error .malformed
  | _ => .error .malformed

/-- The fields of a bus request payload (R166). -/
def decodeBusFields : List Bytes → Except DecodeError Request
  | f0 :: rest =>
    match parseHex f0 with
    | some n => .ok ⟨none, n, rest⟩
    | none => .error .malformed
  | [] => .error .malformed

/-- The fields of a request payload (R166), the packet having passed `VERIFY`. -/
def decodeFields (kind : Kind) (payload : Bytes) : Except DecodeError Request :=
  match kind with
  | .stream => decodeStreamFields (splitFields payload)
  | .bus => decodeBusFields (splitFields payload)

/-- `DECODE_REQUEST(packet, kind)` (R166). -/
def decodeRequest (packet : Bytes) (kind : Kind) : Except DecodeError Request :=
  if verify packet then decodeFields kind (payloadOf packet) else .error .badChecksum

/-- `DECODE_REQUEST` reads the payload's fields (R166). -/
def readable (kind : Kind) (payload : Bytes) : Bool :=
  match decodeFields kind payload with
  | .ok _ => true
  | .error _ => false

/-- One byte of the log form (R168). -/
def renderByte (c : Config) (b : Byte) : Bytes :=
  if b = 0x5C then [0x5C, 0x5C]
  else if 0x20 ≤ b.toNat ∧ b.toNat ≤ 0x7E ∧ b ≠ c.term then [b]
  else 0x5C :: 0x78 :: fmtHex2 b

/-- `RENDER_FOR_LOG(packet)` (R168). -/
def renderForLog (c : Config) (packet : Bytes) : Bytes :=
  [0x5B] ++ (packet.take ckLen).flatMap fmtHex2 ++ [0x5D] ++ (payloadOf packet).flatMap (renderByte c)

/-- `PARSE_S(payload)` (44_response_parser.md R281): the second byte is skipped without being examined. -/
def parseS (payload : Bytes) : ReturnValue :=
  match splitFields (payload.drop 2) with
  | [] => .noValue
  | [f] => if f = [] then .noValue else .str f
  | f :: g :: fs => .list (f :: g :: fs)

/-- `PARSE_F(payload)` (R283): the same skip, not split. -/
def parseF (payload : Bytes) : Bytes :=
  payload.drop 2

/-- The status bytes of a response (30_encoding.md R107). -/
def statusS : Byte := 0x53
/-- `'F'`. -/
def statusF : Byte := 0x46
/-- `'E'`. -/
def statusE : Byte := 0x45

/-- What a packet means as a response (41_packet_codec.md R169). -/
inductive Response where
  | invalid
  | nak
  | ok (v : ReturnValue)
  | remoteFail (message : Bytes)
  | badHeader (b : Byte)
  deriving DecidableEq, Repr

/-- The status header test on a payload (43_retry_engine.md R236), the packet having passed `VERIFY`. -/
def responseOfPayload (payload : Bytes) : Response :=
  match payload with
  | [] => .invalid
  | h :: _ =>
    if h = statusE then .nak
    else if h = statusS then .ok (parseS payload)
    else if h = statusF then .remoteFail (parseF payload)
    else .badHeader h

/-- `DECODE_RESPONSE(packet)` (R169): the chain `VERIFY`, status header, parser. -/
def decodeResponse (packet : Bytes) : Response :=
  if verify packet then responseOfPayload (payloadOf packet) else .invalid

end Sys2Proof.Machine
end

