-- ==== Sys2Proof/WellFormed.lean ====
section
/-!
DEFINITION. Which terms of `Instr` stand for a unit the spec admits: the conditions on the fields of the wire
rows (30_encoding.md R100 to R115). Every operand of an operation is admitted.
-/

namespace Sys2Proof

open Sys2Proof.Machine

/-- The first checksum field of a packet is the checksum of its payload (30_encoding.md R100). -/
def checksumOf (ck : Word16) (payload : Bytes) : Bool :=
  decide (ck = crc16 payload seed0)

/-- An argument field of a request as it stands between separators holds no `SEP` (R105). -/
def argField (f : Bytes) : Bool :=
  f.all fun b => decide (b ≠ sep)

/-- A number field says in one way what it is: the number, or bytes free of `SEP` that are no number to `parse`. -/
def NumField.proper {α : Type} (parse : Bytes → Option α) : NumField α → Bool
  | .value _ => true
  | .text f => argField f && (parse f).isNone

/-- The fields of a `REQ_S` row (R105): arguments follow a function number field only. -/
def streamFields (addr : NumField Byte) (fn : Option (NumField Word16)) (args : List Bytes) : Bool :=
  addr.proper parseHex2 && args.all argField
    && (match fn with
        | some n => n.proper parseHex
        | none => decide (args = []))

/-- The fields of a `REQ_B` row (R106); the payload of a valid packet is not empty (R115 (1)). -/
def busFields (fn : NumField Word16) (args : List Bytes) : Bool :=
  fn.proper parseHex && args.all argField && decide (busPayload fn args ≠ [])

/-- The status byte signals a negative acknowledgement: parameter `HDR_NAK` (00_scope.md R7). -/
def Config.isNak (c : Config) (status : Byte) : Bool :=
  c.hdrNak.contains status

/-- The term is one the spec admits on an instance with parameters `c`. -/
def Instr.wellFormed (c : Config) : Instr → Bool
  | .pkt _ _ => true
  | .wireS _ _ payload => !payload.contains c.term
  | .wireBReq _ _ => true
  | .busHdr status _ _ => !c.isNak status
  | .busHdrNak status _ _ => c.isNak status
  | .wireBBody _ payload => decide (payload.length ≤ 253)
  | .reqS ck addr fn args => streamFields addr fn args && checksumOf ck (streamPayload addr fn args)
  | .reqB ck fn args => busFields fn args && checksumOf ck (busPayload fn args)
  | .respS ck rest => checksumOf ck (statusS :: rest)
  | .respF ck rest => checksumOf ck (statusF :: rest)
  | .respE ck rest => checksumOf ck (statusE :: rest)
  | .respReserved ck status rest =>
    decide (status ≠ statusS) && decide (status ≠ statusF) && decide (status ≠ statusE)
      && checksumOf ck (status :: rest)
  | .rqResend => true
  | .crc16Init _ => true
  | .crc16Step _ => true
  | .crc16 _ _ => true
  | .mkpacket _ => true
  | .verify _ => true
  | .fmtArg _ => true
  | .fmtHex _ => true
  | .fmtHex2 _ => true
  | .encodeRequest _ _ _ => true
  | .frameS _ => true
  | .decodeRequest _ _ => true
  | .decodeResponse _ => true
  | .renderForLog _ => true
  | .acquireStream _ => true
  | .flushRecover => true
  | .busExchange _ => true
  | .hdrCheck => true
  | .classify => true
  | .parseS _ => true
  | .parseF _ => true
  | .openSession _ _ _ => true
  | .closeSession => true
  | .call _ _ => true
  | .rdCnt _ => true
  | .rdTrace => true
  | .rdDiag => true
  | .reset => true

end Sys2Proof
end

