-- ==== Sys2Proof/Decode.lean ====
section
/-!
DEFINITION. The decoder of wire units, total on any bytes, rejecting by name, and after it the encoder
(30_encoding.md R100 to R115). Operations have no binary encoding (R116): the encoder answers `none` for them and
a host gives them as constructors.
-/

namespace Sys2Proof

open Sys2Proof.Machine

/-- Why the decoder rejects a unit. -/
inductive DecodeReject where
  /-- Fewer bytes than the format has (R100, R103), or two or fewer for a packet that must be valid (R115 (1)). -/
  | tooShort
  /-- More bytes than the format has: a header of more than 3, a body of more than 255 (R103, R104). -/
  | tooLong
  /-- The checksum is not that of the payload (R115 (2)). -/
  | badChecksum
  /-- The last byte of a stream wire packet is not `TERM` (R101). -/
  | notTerminated
  /-- `TERM` stands inside a stream payload (R101, R114 (c)). -/
  | termInside
  /-- The payload does not begin with the leader and the separator of a stream request (R105, R115). On the bus nothing
  raises it: a split has always a piece (00_scope.md R12). -/
  | notRequest
  deriving DecidableEq, Repr

/-- Formats `PKT`, `WIRE_B_REQ`, `WIRE_B_BODY`: two checksum bytes, then the payload (R100). -/
def splitPacket : Bytes → Option (Word16 × Bytes)
  | hi :: lo :: payload => some (be16 hi lo, payload)
  | _ => none

/-- Format `WIRE_S` (R101): the bytes without the terminator, which is the last byte and stands nowhere after the
two checksum bytes. -/
def decodeWireS (c : Config) (d : Direction) (bs : Bytes) : Except DecodeReject Instr :=
  match splitPacket bs with
  | none => .error .tooShort
  | some (ck, rest) =>
    if rest.getLast? = some c.term then
      if rest.dropLast.contains c.term then .error .termInside
      else .ok (.wireS d ck rest.dropLast)
    else .error .notTerminated

/-- Format `BUS_HDR` (R103), the rows `BUS_HDR` and `BUS_HDR_NAK`: exactly three bytes. -/
def decodeHeader (c : Config) : Bytes → Except DecodeReject Instr
  | [] | [_] | [_, _] => .error .tooShort
  | [status, length, hck] =>
    .ok (if c.isNak status then .busHdrNak status length hck else .busHdr status length hck)
  | _ => .error .tooLong

/-- A valid packet, its checksum and its payload (R115 (1), (2)). -/
def validPacket (bs : Bytes) : Except DecodeReject (Word16 × Bytes) :=
  match bs with
  | hi :: lo :: b :: rest =>
    if verify bs then .ok (be16 hi lo, b :: rest) else .error .badChecksum
  | _ => .error .tooShort

/-- A request packet (R115). On the stream leader and separator select `REQ_S`; on the bus "every valid packet is
`REQ_B`". Its number fields are read as 41_packet_codec.md R166 reads them, where they are numbers. -/
def decodeReq (kind : Kind) (bs : Bytes) : Except DecodeReject Instr :=
  match validPacket bs with
  | .error e => .error e
  | .ok (ck, payload) =>
    match kind, splitFields payload with
    | .stream, leader :: addr :: rest =>
      if leader = [0x52] then
        match rest with
        | [] => .ok (.reqS ck (numField parseHex2 addr) none [])
        | fn :: args => .ok (.reqS ck (numField parseHex2 addr) (some (numField parseHex fn)) args)
      else .error .notRequest
    | .stream, _ => .error .notRequest
    | .bus, fn :: args => .ok (.reqB ck (numField parseHex fn) args)
    | .bus, [] => .error .notRequest

/-- A response packet, in the order of R115. -/
def decodeResp (bs : Bytes) : Except DecodeReject Instr :=
  match validPacket bs with
  | .error e => .error e
  | .ok (_, []) => .error .tooShort
  | .ok (ck, h :: rest) =>
    if h = statusE then .ok (.respE ck rest)
    else if h = statusS then .ok (.respS ck rest)
    else if h = statusF then .ok (.respF ck rest)
    else .ok (.respReserved ck h rest)

/-- The decoder: the unit `bs` standing in channel `ch`, on an instance with parameters `c`. -/
def decode (c : Config) (ch : Channel) (bs : Bytes) : Except DecodeReject Instr :=
  match ch with
  | .packet =>
    match splitPacket bs with
    | some (ck, payload) => .ok (.pkt ck payload)
    | none => .error .tooShort
  | .streamWire d => decodeWireS c d bs
  | .busWrite =>
    match splitPacket bs with
    | some (ck, payload) => .ok (.wireBReq ck payload)
    | none => .error .tooShort
  | .busHeader => decodeHeader c bs
  | .busBody =>
    match splitPacket bs with
    | some (ck, payload) =>
      if payload.length ≤ 253 then .ok (.wireBBody ck payload) else .error .tooLong
    | none => .error .tooShort
  | .streamRequest => if bs = resendPacket then .ok .rqResend else decodeReq .stream bs
  | .busRequest => decodeReq .bus bs
  | .response => decodeResp bs

/-- The encoder: the channel and the bytes of an instruction; `none` for an operation, which has no encoding
(R116). -/
def encode (c : Config) : Instr → Option (Channel × Bytes)
  | .pkt ck payload => some (.packet, beBytes ck ++ payload)
  | .wireS d ck payload => some (.streamWire d, beBytes ck ++ payload ++ [c.term])
  | .wireBReq ck payload => some (.busWrite, beBytes ck ++ payload)
  | .busHdr status length hck => some (.busHeader, [status, length, hck])
  | .busHdrNak status length hck => some (.busHeader, [status, length, hck])
  | .wireBBody ck payload => some (.busBody, beBytes ck ++ payload)
  | .reqS ck addr fn args => some (.streamRequest, beBytes ck ++ streamPayload addr fn args)
  | .reqB ck fn args => some (.busRequest, beBytes ck ++ busPayload fn args)
  | .respS ck rest => some (.response, beBytes ck ++ statusS :: rest)
  | .respF ck rest => some (.response, beBytes ck ++ statusF :: rest)
  | .respE ck rest => some (.response, beBytes ck ++ statusE :: rest)
  | .respReserved ck status rest => some (.response, beBytes ck ++ status :: rest)
  | .rqResend => some (.streamRequest, resendPacket)
  | .crc16Init _ => none
  | .crc16Step _ => none
  | .crc16 _ _ => none
  | .mkpacket _ => none
  | .verify _ => none
  | .fmtArg _ => none
  | .fmtHex _ => none
  | .fmtHex2 _ => none
  | .encodeRequest _ _ _ => none
  | .frameS _ => none
  | .decodeRequest _ _ => none
  | .decodeResponse _ => none
  | .renderForLog _ => none
  | .acquireStream _ => none
  | .flushRecover => none
  | .busExchange _ => none
  | .hdrCheck => none
  | .classify => none
  | .parseS _ => none
  | .parseF _ => none
  | .openSession _ _ _ => none
  | .closeSession => none
  | .call _ _ => none
  | .rdCnt _ => none
  | .rdTrace => none
  | .rdDiag => none
  | .reset => none

/-- The first `n` bytes of the number `w`, byte 0 its least significant. -/
def bytesOfNat : Nat → Nat → Bytes
  | 0, _ => []
  | n + 1, w => BitVec.ofNat 8 w :: bytesOfNat n (w / 256)

/-- The bytes of a table word of `nbits` bits: byte 0 of the unit is bits 7 to 0. No unit the decoder accepts by its
content is shorter than 3 bytes (R100, R103), so a shorter word goes on with zero bits to that length. -/
def tableBytes (nbits w : Nat) : Bytes :=
  bytesOfNat (max 3 ((nbits + 7) / 8)) w

/-- Some instruction, and not a refusal. -/
def accepts (c : Config) (ch : Channel) (bs : Bytes) : Bool :=
  match decode c ch bs with
  | .ok _ => true
  | .error _ => false

/-- The status byte of a packet is `'S'`, `'F'` or `'E'` (R107). -/
def namedStatus (bs : Bytes) : Bool :=
  match payloadOf bs with
  | [] => false
  | h :: _ => decide (h = statusE ∨ h = statusS ∨ h = statusF)

/-- A word of exactly three bytes whose first two are a header with the third as its sum (42_frame_acquirer.md R204),
or whose first signals a negative acknowledgement. -/
def headerWord (c : Config) : Bytes → Bool
  | [status, length, hck] => decide (hck = headerSum status length) || c.isNak status
  | _ => false

/-- The channel in which a table word with no place of its own is read (log entry 11). -/
def tableChannel (c : Config) (nbits : Nat) (bs : Bytes) : Channel :=
  if accepts c .streamRequest bs then .streamRequest
  else if verify bs && namedStatus bs then .response
  else if verify bs && readable .bus (payloadOf bs) then .busRequest
  else if 16 < nbits && decide (nbits ≤ 24) && (headerWord c bs || !namedStatus bs) then .busHeader
  else .response

/-- The instruction the decoder reads from a table word, on the spec's default instance. -/
def decodeTableWord (nbits w : Nat) : Option Instr :=
  let bs := tableBytes nbits w
  match decode Config.default (tableChannel Config.default nbits bs) bs with
  | .ok i => some i
  | .error _ => none

end Sys2Proof
end

