-- ==== Sys2Proof/Machine/State.lean ====
section
/-!
DEFINITION. The state of the engine as plain data (10_state.md R20 to R42), the reasons a step can stop, and the
state after reset (R41, 70_reset_and_hazards.md R380).
-/

namespace Sys2Proof.Machine

/-- `st`, the state of the retry engine (10_state.md R27). -/
inductive RetryState where
  | idle
  | sending
  | awaiting
  | classifying
  | success
  | retry
  | fatal
  deriving DecidableEq, Repr

/-- `fs`, the state of the stream synchronizer (R28). -/
inductive SyncState where
  | idle
  | ck0
  | ck1
  | body
  | settle
  deriving DecidableEq, Repr

/-- `bx`, the state of the bus exchange (R29). -/
inductive BusState where
  | idle
  | write
  | hdr
  | body
  deriving DecidableEq, Repr

/-- `hdr`, the three header bytes (R24). -/
structure Header where
  status : Byte
  length : Byte
  hck : Byte
  deriving DecidableEq, Repr

/-- `acq`, the result of the last acquisition (R25). -/
inductive Acquired where
  | noFrame
  | frame (p : Bytes)
  | hdrBad
  | hdrNak
  deriving DecidableEq, Repr

/-- The tags of the terminal errors (60_exceptions.md R331, R337). -/
inductive ErrTag where
  | noResponse
  | corruptResponse
  | peerReportedCorruptRequest
  | remoteCallFault
  | unrecognizedHeader
  | encodeError
  | openError
  deriving DecidableEq, Repr

/-- `result`, the outcome of the last call (R26). -/
inductive CallResult where
  | pending
  | value (v : ReturnValue)
  | err (tag : ErrTag) (addr : Byte) (detail : Bytes)
  deriving DecidableEq, Repr

/-- `tx_sel`, what the next `SENDING` sends (R35). -/
inductive TxSel where
  | original
  | resendRq
  deriving DecidableEq, Repr

/-- The class of a trace record (R38). -/
inductive TraceClass where
  | c1NoFrame
  | c2Corrupt
  | c3Nak
  | c4Success
  | c5RemoteFail
  | c6BadHeader
  deriving DecidableEq, Repr

/-- The action of a trace record (R38). -/
inductive TraceAction where
  | resendOriginal
  | sendRqResend
  | redoExchange
  | rereadHeader
  | none
  deriving DecidableEq, Repr

/-- A trace record (R38, 43_retry_engine.md R246). -/
structure TraceRecord where
  attempt : BitVec 4
  cls : TraceClass
  action : TraceAction
  deriving DecidableEq, Repr

/-- The registers of one session (10_state.md R20 (b) to (d)). -/
structure Session where
  /-- `kind` (R36). -/
  kind : Kind
  /-- `addr` (R36). -/
  addr : Byte
  /-- `link_id` (R36). -/
  linkId : LinkId
  /-- `is_open` (R36). -/
  isOpen : Bool
  /-- `read_crc_errors` (R31). -/
  readCrcErrors : Nat
  /-- `write_crc_errors` (R32). -/
  writeCrcErrors : Nat
  /-- `tx_pkt` (R22). -/
  txPkt : Bytes
  /-- `rx_buf` (R23). -/
  rxBuf : Bytes
  /-- `hdr` (R24). -/
  hdr : Header
  /-- `acq` (R25). -/
  acq : Acquired
  /-- `result` (R26). -/
  result : CallResult
  /-- `st` (R27). -/
  st : RetryState
  /-- `fs` (R28). -/
  fs : SyncState
  /-- `bx` (R29). -/
  bx : BusState
  /-- `term_seen` (R30). -/
  termSeen : Bool
  /-- `ck_ok` (R30). -/
  ckOk : Bool
  /-- `hdr_ck_ok` (R30). -/
  hdrCkOk : Bool
  /-- `hdr_nak` (R30). -/
  hdrNak : Bool
  /-- `skip_write` (R30). -/
  skipWrite : Bool
  /-- `attempts` (R33). -/
  attempts : BitVec 4
  /-- `n_noframe` (R34). -/
  nNoframe : BitVec 4
  /-- `n_corrupt` (R34). -/
  nCorrupt : BitVec 4
  /-- `n_nak` (R34). -/
  nNak : BitVec 4
  /-- `n_hdr` (R34). -/
  nHdr : BitVec 4
  /-- `tx_sel` (R35). -/
  txSel : TxSel
  /-- `trace` (R38). -/
  trace : List TraceRecord
  /-- The operands of a `CALL` that waits for the link's lock (45_host_ops.md R303 (c); the model's own, log
  entry 15). -/
  waiting : Option (Word16 × List Value)
  deriving DecidableEq, Repr

/-- A session after reset (R41). `kind`, `addr` and `linkId` are unspecified until `OPEN`: DESIGN CHOICE, log
entry 5. -/
def Session.reset : Session where
  kind := .stream
  addr := 0x00
  linkId := 0
  isOpen := false
  readCrcErrors := 0
  writeCrcErrors := 0
  txPkt := []
  rxBuf := []
  hdr := ⟨0x00, 0x00, 0x00⟩
  acq := .noFrame
  result := .pending
  st := .idle
  fs := .idle
  bx := .idle
  termSeen := false
  ckOk := false
  hdrCkOk := false
  hdrNak := false
  skipWrite := false
  attempts := 0
  nNoframe := 0
  nCorrupt := 0
  nNak := 0
  nHdr := 0
  txSel := .original
  trace := []
  waiting := none

/-- A registry entry: the kind of the open transport handle and its users (45_host_ops.md R301). -/
structure RegEntry where
  kind : Kind
  users : Nat
  deriving DecidableEq, Repr

/-- A bus transaction as it went over the bus (20_memory.md R67, R68): the address, and the bytes written, or the
number of bytes asked for and the answer. -/
inductive BusTxn where
  | write (addr : Byte) (v : Bytes)
  | read (addr : Byte) (n : Nat) (answer : Bytes)
  deriving DecidableEq, Repr

/-- Why `OPEN` fails (45_host_ops.md R301). -/
inductive OpenFault where
  | badAddress
  | kindMismatch
  deriving DecidableEq, Repr

/-- What `HDR_CHECK` returns (42_frame_acquirer.md R204). -/
inductive HeaderResult where
  | ok (length : Byte)
  | hdrBad
  | hdrNak
  deriving DecidableEq, Repr

/-- The value the last operation gave its caller (log entry 9). -/
inductive Reply where
  /-- Nothing yet. -/
  | nothing
  /-- The operation returns no value. -/
  | done
  | word (v : Word16)
  | flag (b : Bool)
  | bytes (v : Bytes)
  | text (s : List Char)
  | request (r : Request)
  /-- `ENCODE_REQUEST` refused (41_packet_codec.md R164). -/
  | encodeError
  | decodeError (e : DecodeError)
  | response (r : Response)
  | header (r : HeaderResult)
  /-- What `CLASSIFY` returns: class, next state, action. -/
  | classified (cls : TraceClass) (st : RetryState) (action : TraceAction)
  /-- The same with next state `FATAL`, and the `CallError` the host's call ended with in the same step (60_exceptions.md
  R336). -/
  | classifiedRaised (cls : TraceClass) (action : TraceAction) (tag : ErrTag) (addr : Byte) (detail : Bytes)
  /-- A call returned. -/
  | returned (v : ReturnValue)
  /-- A call raised `CallError(tag, addr, detail)` (60_exceptions.md R330). -/
  | raised (tag : ErrTag) (addr : Byte) (detail : Bytes)
  /-- `OPEN` raised `OpenError` (R337). -/
  | openError (why : OpenFault) (addr : Byte)
  | count (n : Nat)
  | trace (l : List TraceRecord)
  | diag (attempts nNoframe nCorrupt nNak nHdr : BitVec 4)
  deriving DecidableEq, Repr

/-- What the host or the environment does next (00_scope.md R13; log entries 1 and 2). -/
inductive Input where
  /-- Session `sid` is given an operation as a constructor (30_encoding.md R116): a host operation, a component
  operation, an event of the synchronizer, an answer of the bus. -/
  | op (sid : SessId) (i : Instr)
  /-- A unit of wire bytes for session `sid`, to be decoded. -/
  | unit (sid : SessId) (ch : Channel) (bs : Bytes)
  /-- Bytes arrive in the receive queue of a stream link (10_state.md R40 (a)). -/
  | arrive (l : LinkId) (bs : Bytes)
  /-- The oldest `n` bytes of a stream link's output queue leave for the wire (R40 (b)). -/
  | transmit (l : LinkId) (n : Nat)
  /-- Session `sid` takes its next internal transition (R13 (c)). -/
  | tick (sid : SessId)
  deriving DecidableEq, Repr

/-- Why the machine stops with a fault: an engine operation in a state that has no such transition (10_state.md
R27: "No other transition exists"). Bytes that are no legal unit of a row's channel (log entry 35) raise what the row
raises. All are safe: the model stops, and no state follows. -/
inductive Fault where
  /-- A unit of the sending direction that the session is not about to send. Raised by `REQ_S`, `REQ_B`,
  `RQ_RESEND`, `WIRE_B_REQ` and by `WIRE_S` to the peer (43_retry_engine.md R233, 42_frame_acquirer.md R202). Safe. -/
  | sendNotDue
  /-- A stream wire packet of the peer for a session with no open stream link. Raised by `WIRE_S` to the engine
  (20_memory.md R60). Safe. -/
  | noStreamLink
  /-- No acquisition is running. Raised by `FLUSH_RECOVER` (42_frame_acquirer.md R193 to R196). Safe. -/
  | notAcquiring
  /-- The bus exchange is not at that step. Raised by `BUS_EXCHANGE`, `HDR_CHECK`, `BUS_HDR`, `BUS_HDR_NAK`,
  `WIRE_B_BODY` (R201 to R205). Safe. -/
  | noExchange
  /-- The session is not classifying that frame. Raised by `CLASSIFY` and the `RESP` rows (43_retry_engine.md
  R236). Safe. -/
  | notClassifying
  deriving DecidableEq, Repr

/-- Why an operation is refused. All are safe: the spec has no step there, and the model has none. -/
inductive Refusal where
  /-- The instruction has no meaning in the model. Raised by `exec` alone. Safe. -/
  | notModelled (mnemonic : String)
  /-- `OPEN` on an open session (45_host_ops.md R301: "no step"). Safe. -/
  | sessionAlreadyOpen
  /-- `CALL`, `CLOSE`, `RD_CNT`, `RD_TRACE`, `RD_DIAG` on a closed session (R303 (a), R304, R305). Safe. -/
  | sessionClosed
  /-- The same operations while a call of the session is in flight or waiting (R300, R303 (b), R305). Safe. -/
  | sessionBusy
  deriving DecidableEq, Repr

/-- The state of the engine and of what the spec lets it see of its surroundings. -/
structure State where
  /-- The configuration registers (10_state.md R37). -/
  cfg : Config
  /-- `crc` (R21). -/
  crc : Word16
  /-- The sessions, by number; an unlisted one is `Session.reset`. -/
  sessions : List (SessId × Session)
  /-- `registry` (R40 (e)). -/
  registry : List (LinkId × RegEntry)
  /-- `lock` (R40 (d)): the session that holds each lock; an unlisted lock is free. -/
  locks : List (LinkId × SessId)
  /-- `rx_fifo` (R40 (a)), oldest byte first; an unlisted queue is empty. -/
  rxFifo : List (LinkId × Bytes)
  /-- `tx_fifo` (R40 (b)), oldest byte first. -/
  txFifo : List (LinkId × Bytes)
  /-- The bytes that have left each output queue for the wire (log entry 17). -/
  sent : List (LinkId × Bytes)
  /-- The bus transactions in order, each with its link (log entry 17). -/
  busLog : List (LinkId × BusTxn)
  /-- The session the step is for (log entry 3). -/
  cur : SessId
  /-- What the host and the environment do next (log entry 1). -/
  agenda : List Input
  /-- The value the last operation gave its caller (log entry 9). -/
  reply : Reply
  /-- The counter the free values are applied to (log entry 8). -/
  free : Nat
  deriving DecidableEq, Repr

/-- The machine right after reset (10_state.md R41), the spec's default instance; the environment's queues are
unspecified there and empty here (log entry 6), and nothing waits to happen (70_reset_and_hazards.md R382). -/
def State.reset : State where
  cfg := Config.default
  crc := 0x0000
  sessions := []
  registry := []
  locks := []
  rxFifo := []
  txFifo := []
  sent := []
  busLog := []
  cur := 0
  agenda := []
  reply := .nothing
  free := 0

end Sys2Proof.Machine
end

