-- ==== Sys2Proof/Machine/Flags.lean ====
section
/-!
DEFINITION. Every flag computation of the engine (10_state.md R30) and the counters' arithmetic (R31 to R34).
-/

namespace Sys2Proof.Machine

/-- `hdr_ck_ok` (42_frame_acquirer.md R204): the third byte is the complement of the sum of the first two. -/
def headerCkOk (h : Header) : Bool :=
  decide (h.hck = headerSum h.status h.length)

/-- `hdr_nak` (R204): parameter `HDR_NAK` on the status byte. -/
def headerIsNak (c : Config) (h : Header) : Bool :=
  c.isNak h.status

/-- `budget_left` (10_state.md R30, 43_retry_engine.md R232): the call may make another attempt. -/
def budgetLeft (c : Config) (se : Session) : Bool :=
  decide (se.attempts.toNat < c.maxRetries)

/-- `term_seen`'s condition in R194: the byte is the terminator. -/
def isTerm (c : Config) (b : Byte) : Bool :=
  decide (b = c.term)

/-- The buffer cannot take another byte (R194): `RX_CAP` is given and reached. -/
def bufferFull (c : Config) (se : Session) : Bool :=
  match c.rxCap with
  | none => false
  | some n => decide (n ≤ se.rxBuf.length)

/-- A lifetime counter moves by one and saturates at `2^CNT_W - 1` (10_state.md R31, R32). -/
def bump (c : Config) (n : Nat) : Nat :=
  min (n + 1) (2 ^ c.cntW - 1)

end Sys2Proof.Machine
end

