-- ==== Sys2Proof/Machine/Ops.lean ====
section
/-!
DEFINITION. The named operations on the state: registers, queues, registry and locks, the transport primitives of
20_memory.md R63 to R68, the checksum register, raising a terminal error (60_exceptions.md R336) and the end of a
call (43_retry_engine.md R247).
-/

namespace Sys2Proof.Machine

/-- What every meaning answers. -/
abbrev Result := Host.Outcome State Fault Refusal

/-! ### Registers -/

/-- The registers of session `sid`. -/
def State.session (s : State) (sid : SessId) : Session :=
  Assoc.getD Session.reset sid s.sessions

/-- The registers of the session the step is for. -/
def State.sess (s : State) : Session :=
  s.session s.cur

/-- Write the registers of the session the step is for. -/
def State.setSess (s : State) (se : Session) : State :=
  { s with sessions := Assoc.put Session.reset s.cur se s.sessions }

/-- Write `crc`. -/
def State.setCrc (s : State) (v : Word16) : State :=
  { s with crc := v }

/-- Give the caller a value. -/
def State.setReply (s : State) (r : Reply) : State :=
  { s with reply := r }

/-- Step the counter of the free values. -/
def State.bumpFree (s : State) : State :=
  { s with free := s.free + 1 }

/-- Take the head off the agenda and turn to session `sid`. -/
def State.select (s : State) (sid : SessId) (rest : List Input) : State :=
  { s with cur := sid, agenda := rest }

/-- `crc` after the checksum unit has run over `data` with the seed of every packet (R142, log entry 10). -/
def State.runCrc (s : State) (data : Bytes) : State :=
  s.setCrc (crc16 data seed0)

/-- `crc` after `VERIFY` of a packet: the unit runs only when there is a payload (40_checksum.md R144). -/
def State.runVerify (s : State) (packet : Bytes) : State :=
  if packet.length ≤ 2 then s else s.runCrc (payloadOf packet)

/-! ### Registry and locks -/

/-- The registry entry of a link. -/
def State.regEntry (s : State) (l : LinkId) : Option RegEntry :=
  Assoc.get? l s.registry

/-- The session that holds a link's lock; `none`: the lock is free. -/
def State.lockOf (s : State) (l : LinkId) : Option SessId :=
  Assoc.get? l s.locks

/-- Take a link's lock for the session the step is for (20_memory.md R72). -/
def State.takeLock (s : State) (l : LinkId) : State :=
  { s with locks := Assoc.insert l s.cur s.locks }

/-- Free a link's lock (R72). -/
def State.freeLock (s : State) (l : LinkId) : State :=
  { s with locks := Assoc.erase l s.locks }

/-- Write a registry entry. -/
def State.setReg (s : State) (l : LinkId) (e : RegEntry) : State :=
  { s with registry := Assoc.insert l e s.registry }

/-- Remove a registry entry: the transport handle is closed (45_host_ops.md R305). -/
def State.dropReg (s : State) (l : LinkId) : State :=
  { s with registry := Assoc.erase l s.registry }

/-! ### Queues and transport primitives -/

/-- A link's receive queue. -/
def State.rx (s : State) (l : LinkId) : Bytes :=
  Assoc.getD [] l s.rxFifo

/-- A link's output queue. -/
def State.tx (s : State) (l : LinkId) : Bytes :=
  Assoc.getD [] l s.txFifo

/-- What has left a link's output queue for the wire. -/
def State.wire (s : State) (l : LinkId) : Bytes :=
  Assoc.getD [] l s.sent

/-- Write a link's receive queue. -/
def State.setRx (s : State) (l : LinkId) (b : Bytes) : State :=
  { s with rxFifo := Assoc.put [] l b s.rxFifo }

/-- Write a link's output queue. -/
def State.setTx (s : State) (l : LinkId) (b : Bytes) : State :=
  { s with txFifo := Assoc.put [] l b s.txFifo }

/-- Write a link's wire record. -/
def State.setWire (s : State) (l : LinkId) (b : Bytes) : State :=
  { s with sent := Assoc.put [] l b s.sent }

/-- `StreamTx(v)` (20_memory.md R63). -/
def State.streamTx (s : State) (l : LinkId) (v : Bytes) : State :=
  s.setTx l (s.tx l ++ v)

/-- `FlushIn` (R65). -/
def State.flushIn (s : State) (l : LinkId) : State :=
  s.setRx l []

/-- `FlushOut` (R65). -/
def State.flushOut (s : State) (l : LinkId) : State :=
  s.setTx l []

/-- Bytes arrive in a receive queue (10_state.md R40 (a)). -/
def State.arrive (s : State) (l : LinkId) (v : Bytes) : State :=
  s.setRx l (s.rx l ++ v)

/-- The oldest `n` bytes of an output queue leave for the wire, in the order written (R40 (b), 20_memory.md R73). -/
def State.transmit (s : State) (l : LinkId) (n : Nat) : State :=
  (s.setWire l (s.wire l ++ (s.tx l).take n)).setTx l ((s.tx l).drop n)

/-- A transaction goes over the bus. -/
def State.logBus (s : State) (l : LinkId) (t : BusTxn) : State :=
  { s with busLog := s.busLog ++ [(l, t)] }

/-- `BusWrite(a, v)` (R67). -/
def State.busWrite (s : State) (l : LinkId) (a : Byte) (v : Bytes) : State :=
  s.logBus l (.write a v)

/-- The bytes a `BusRead` of `n` bytes gives when the environment answers `answer`: at most `n` (R68, log entry
18). -/
def busAnswer (n : Nat) (answer : Bytes) : Bytes :=
  answer.take n

/-- `BusRead(a, n)` (R68) as a transaction; its bytes are `busAnswer n answer`. -/
def State.busRead (s : State) (l : LinkId) (a : Byte) (n : Nat) (answer : Bytes) : State :=
  s.logBus l (.read a n (busAnswer n answer))

/-! ### Terminal errors and the end of a call -/

/-- Append a record with the attempt count to `trace` (43_retry_engine.md R246). -/
def Session.record (se : Session) (cls : TraceClass) (a : TraceAction) : Session :=
  { se with trace := se.trace ++ [⟨se.attempts, cls, a⟩] }

/-- Raising a terminal error of a call (60_exceptions.md R336): the cause goes to `result`, one record with action
`NONE` to `trace`, and the machine to `FATAL`. The rest of R336's sequence, in the same step, is
`State.leaveClassifying`. -/
def Session.raiseError (se : Session) (cls : TraceClass) (tag : ErrTag) (detail : Bytes) : Session :=
  { se.record cls .none with result := .err tag se.addr detail, st := .fatal }

/-- What the host is handed at the end of a call (45_host_ops.md R302): an error is raised, a value returned. -/
def replyOf : CallResult → Reply
  | .err tag a d => .raised tag a d
  | .value v => .returned v
  | .pending => .nothing

/-- The end of a call of the session the step is for, whose registers are `se` (43_retry_engine.md R247): the lock is
freed, the result handed to the host, `st` goes to `IDLE`. There is nothing to restore (60_exceptions.md R338). -/
def State.endCall (se : Session) (s : State) : State :=
  ((s.freeLock se.linkId).setReply (replyOf se.result)).setSess { se with st := .idle }

/-- The end of the step that leaves `CLASSIFYING`, `se` being the session's registers after the classifier: where an
error was raised the call ends in this same step (60_exceptions.md R336). -/
def State.leaveClassifying (se : Session) (s : State) : State :=
  if se.st = .fatal then s.endCall se else s.setSess se

/-- Why a host operation that needs an open, idle session is refused (45_host_ops.md R300, R303 to R305). -/
def Session.refusal (se : Session) : Option Refusal :=
  if se.isOpen = false then some .sessionClosed
  else if se.st = .idle ∧ se.waiting = none then none
  else some .sessionBusy

/-! ### The form of the keyed stores -/

/-- Every keyed store of the state is in canonical form: sessions, registry, locks and queues (log entry 28). -/
def Memory.wf (s : State) : Bool :=
  Assoc.canonical Session.reset s.sessions && Assoc.rising s.registry && Assoc.rising s.locks
    && Assoc.canonical [] s.rxFifo && Assoc.canonical [] s.txFifo && Assoc.canonical [] s.sent

end Sys2Proof.Machine
end

