-- ==== Sys2Proof/Machine/Checksum.lean ====
section
/-!
DEFINITION. The meanings of the checksum operations (40_checksum.md R140 to R144). They write `crc` and give a
value; nothing else changes.
-/

namespace Sys2Proof.Machine

/-- `CRC16_INIT(seed)` (R140). -/
def execCrc16Init (seed : Word16) (s : State) : Result :=
  .next ((s.setCrc seed).setReply .done)

/-- `CRC16_STEP(b)` (R141). -/
def execCrc16Step (b : Byte) (s : State) : Result :=
  .next ((s.setCrc (crcStep s.crc b)).setReply .done)

/-- `CRC16(data, seed)` (R142). -/
def execCrc16 (data : Bytes) (seed : Word16) (s : State) : Result :=
  .next ((s.setCrc (crc16 data seed)).setReply (.word (crc16 data seed)))

/-- `MKPACKET(payload)` (R143). -/
def execMkpacket (payload : Bytes) (s : State) : Result :=
  .next ((s.runCrc payload).setReply (.bytes (mkPacket payload)))

/-- `VERIFY(packet)` (R144). -/
def execVerify (packet : Bytes) (s : State) : Result :=
  .next ((s.runVerify packet).setReply (.flag (verify packet)))

end Sys2Proof.Machine
end

