-- ==== Sys2Proof/Machine/Codec.lean ====
section
/-!
DEFINITION. The meanings of the packet codec's operations (41_packet_codec.md R161 to R169). None touches a
transport or any register but `crc`.
-/

namespace Sys2Proof.Machine

/-- `FMT_ARG(v)` (R161). -/
def execFmtArg (v : Value) (s : State) : Result :=
  .next (s.setReply (.text (fmtArg v)))

/-- `FMT_HEX(n)` (R162). -/
def execFmtHex (n : Word16) (s : State) : Result :=
  .next (s.setReply (.bytes (fmtHex n)))

/-- `FMT_HEX2(a)` (R162). -/
def execFmtHex2 (a : Byte) (s : State) : Result :=
  .next (s.setReply (.bytes (fmtHex2 a)))

/-- `ENCODE_REQUEST(address, func_num, args)` (R163), or its refusal, which changes no register (R164). -/
def execEncodeRequest (address : Option Byte) (fn : Word16) (args : List Value) (s : State) : Result :=
  match encodeRequest address fn args with
  | some packet => .next ((s.runCrc (payloadOf packet)).setReply (.bytes packet))
  | none => .next (s.setReply .encodeError)

/-- `FRAME_S(packet)` (R165). -/
def execFrameS (packet : Bytes) (s : State) : Result :=
  .next (s.setReply (.bytes (frameS s.cfg packet)))

/-- `DECODE_REQUEST(packet, kind)` (R166). -/
def execDecodeRequest (packet : Bytes) (kind : Kind) (s : State) : Result :=
  match decodeRequest packet kind with
  | .ok r => .next ((s.runVerify packet).setReply (.request r))
  | .error e => .next ((s.runVerify packet).setReply (.decodeError e))

/-- `DECODE_RESPONSE(packet)` (R169). -/
def execDecodeResponse (packet : Bytes) (s : State) : Result :=
  .next ((s.runVerify packet).setReply (.response (decodeResponse packet)))

/-- `RENDER_FOR_LOG(packet)` (R168). -/
def execRenderForLog (packet : Bytes) (s : State) : Result :=
  .next (s.setReply (.bytes (renderForLog s.cfg packet)))

end Sys2Proof.Machine
end

