-- ==== Sys2Proof/Machine/Acquire.lean ====
section
/-!
DEFINITION. The frame acquirer (42_frame_acquirer.md): the stream synchronizer with its flush-and-settle recovery
(R190 to R198) and the bus exchange (R200 to R205).
-/

namespace Sys2Proof.Machine

/-! ### The stream synchronizer -/

/-- Start of an acquisition (R190). The input is not flushed. -/
def Session.startAcquire (se : Session) : Session :=
  { se with rxBuf := [], termSeen := false, fs := .ck0 }

/-- `FLUSH_RECOVER` (R196): the buffer is emptied, both queues of the link are flushed, the synchronizer settles. -/
def State.flushRecover (s : State) : State :=
  let se := s.sess
  ((s.flushIn se.linkId).flushOut se.linkId).setSess { se with rxBuf := [], fs := .settle }

/-- End of the body read (R195) with the session's registers `se`: a frame if the terminator was seen, else a
framing failure. -/
def State.endBody (s : State) (se : Session) : State :=
  if se.termSeen then s.setSess { se with acq := .frame se.rxBuf, fs := .idle } else s.flushRecover

/-- The byte `b` reaches the synchronizer (R191, R192, R194, R197). In `FS_IDLE` no byte is taken. -/
def State.takeByte (s : State) (b : Byte) : State :=
  let se := s.sess
  match se.fs with
  | .idle => s
  | .ck0 => s.setSess { se with rxBuf := [b], fs := .ck1 }
  | .ck1 => s.setSess { se with rxBuf := se.rxBuf ++ [b], fs := .body }
  | .body =>
    if isTerm s.cfg b then s.endBody { se with termSeen := true }
    else if bufferFull s.cfg se then s.flushRecover
    else s.setSess { se with rxBuf := se.rxBuf ++ [b] }
  | .settle => s

/-- `RxByte` (20_memory.md R64, R66): offered in every state but `FS_IDLE`, enabled when the link's queue is not
empty; it removes the oldest byte. Otherwise the event does not reach the engine (60_exceptions.md R342). -/
def State.onRxByte (s : State) : State :=
  let se := s.sess
  if se.fs = .idle then s
  else
    match s.rx se.linkId with
    | [] => s
    | b :: rest => (s.setRx se.linkId rest).takeByte b

/-- `RxTimeout` (R64): accepted in the three reading states (R193, R195). -/
def State.onRxTimeout (s : State) : State :=
  match s.sess.fs with
  | .idle => s
  | .ck0 => s.flushRecover
  | .ck1 => s.flushRecover
  | .body => s.endBody s.sess
  | .settle => s

/-- `SettleDone` (R66): accepted in `FS_SETTLE` (R198). -/
def State.onSettleDone (s : State) : State :=
  let se := s.sess
  if se.fs = .settle then (s.flushIn se.linkId).setSess { se with acq := .noFrame, fs := .idle }
  else s

/-- An event of the synchronizer. -/
def State.onEvent (s : State) : StreamEvent → State
  | .rxByte => s.onRxByte
  | .rxTimeout => s.onRxTimeout
  | .settleDone => s.onSettleDone

/-- The session has an open stream link. -/
def Session.onStream (se : Session) : Bool :=
  se.isOpen && decide (se.kind = .stream)

/-- The session has an open bus link. -/
def Session.onBus (se : Session) : Bool :=
  se.isOpen && decide (se.kind = .bus)

/-- `ACQUIRE_STREAM` takes one event. Where the state does not accept it, or the session has no open stream link, the
event does not reach the engine and nothing changes (60_exceptions.md R342, log entry 14). -/
def execAcquireStream (e : StreamEvent) (s : State) : Result :=
  if s.sess.onStream then .next (s.onEvent e) else .next s

/-- `FLUSH_RECOVER` (R196), issued while an acquisition is running (R193, R194, R195). -/
def execFlushRecover (s : State) : Result :=
  let se := s.sess
  if se.onStream ∧ (se.fs = .ck0 ∨ se.fs = .ck1 ∨ se.fs = .body) then .next s.flushRecover
  else .fault .notAcquiring

/-! ### The bus exchange -/

/-- Start of an exchange (R201). With `skip_write` set the write is left out and `st` passes to `AWAITING` at once
(43_retry_engine.md R234). -/
def Session.startExchange (se : Session) : Session :=
  let se' := { se with rxBuf := [], hdrCkOk := false, hdrNak := false }
  if se.skipWrite then { se' with skipWrite := false, bx := .hdr, st := .awaiting }
  else { se' with bx := .write }

/-- The request write (R202); `st` becomes `AWAITING` when `bx` becomes `BX_HDR` (R234). -/
def State.writeRequest (s : State) : State :=
  let se := s.sess
  (s.busWrite se.linkId se.addr se.txPkt).setSess { se with bx := .hdr, st := .awaiting }

/-- `HDR_CHECK` (R204) on the register `hdr`: the checksum before the status. -/
def Session.checkHeader (c : Config) (se : Session) : Session :=
  let se' := { se with hdrCkOk := headerCkOk se.hdr, hdrNak := headerIsNak c se.hdr }
  if headerCkOk se.hdr = false then { se' with acq := .hdrBad, bx := .idle }
  else if headerIsNak c se.hdr then { se' with acq := .hdrNak, bx := .idle }
  else { se' with bx := .body }

/-- What `HDR_CHECK` returns. -/
def headerResult (c : Config) (h : Header) : HeaderResult :=
  if headerCkOk h = false then .hdrBad
  else if headerIsNak c h then .hdrNak
  else .ok h.length

/-- The header read (R203): three bytes are loaded and checked, fewer are no frame. -/
def Session.takeHeader (c : Config) (se : Session) (h : Bytes) : Session :=
  match h with
  | [status, length, hck] => Session.checkHeader c { se with hdr := ⟨status, length, hck⟩ }
  | _ => { se with acq := .noFrame, bx := .idle }

/-- The header read transaction (R203) with the environment's answer. -/
def State.readHeader (s : State) (answer : Bytes) : State :=
  let se := s.sess
  (s.busRead se.linkId se.addr hdrLen answer).setSess (se.takeHeader s.cfg (busAnswer hdrLen answer))

/-- The body read (R205): exactly the declared length, or no frame. -/
def Session.takeBody (se : Session) (b : Bytes) : Session :=
  if b.length < se.hdr.length.toNat then { se with acq := .noFrame, bx := .idle }
  else { se with rxBuf := b, acq := .frame b, bx := .idle }

/-- The body read transaction (R205) with the environment's answer. -/
def State.readBody (s : State) (answer : Bytes) : State :=
  let se := s.sess
  let n := se.hdr.length.toNat
  (s.busRead se.linkId se.addr n answer).setSess (se.takeBody (busAnswer n answer))

/-- `BUS_EXCHANGE` takes one step (R201 to R205): start and write while `st` is `SENDING`, the reads while it is
`AWAITING` (R200, 43_retry_engine.md R234). -/
def execBusExchange (answer : Bytes) (s : State) : Result :=
  let se := s.sess
  if se.onBus then
    match se.bx, se.st with
    | .idle, .sending => .next (s.setSess se.startExchange)
    | .write, .sending => .next s.writeRequest
    | .hdr, .awaiting => .next (s.readHeader answer)
    | .body, .awaiting => .next (s.readBody answer)
    | _, _ => .fault .noExchange
  else .fault .noExchange

/-- The session is at the header read of its exchange. -/
def Session.atHeader (se : Session) : Bool :=
  se.onBus && decide (se.bx = .hdr) && decide (se.st = .awaiting)

/-- The session is at the body read of its exchange. -/
def Session.atBody (se : Session) : Bool :=
  se.onBus && decide (se.bx = .body) && decide (se.st = .awaiting)

/-- `HDR_CHECK` (R204) on the register `hdr` (log entry 30). -/
def execHdrCheck (s : State) : Result :=
  let se := s.sess
  if se.atHeader then
    .next ((s.setSess (se.checkHeader s.cfg)).setReply (.header (headerResult s.cfg se.hdr)))
  else .fault .noExchange

end Sys2Proof.Machine
end

