-- ==== Sys2Proof/Machine/Retry.lean ====
section
/-!
DEFINITION. The retry engine (43_retry_engine.md): the sends (R233, R234), the end of an acquisition (R235), the
classifier and its classes (R236 to R244), the retry (R245), and the internal transition a session takes next.
-/

namespace Sys2Proof.Machine

/-! ### The detail strings (60_exceptions.md R331) -/

/-- "max retries: no response". -/
def detailNoResponse : Bytes := asciiBytes "max retries: no response".toList
/-- "max retries: corrupt response". -/
def detailCorrupt : Bytes := asciiBytes "max retries: corrupt response".toList
/-- "max retries: peer reported corrupt request". -/
def detailPeerCorrupt : Bytes := asciiBytes "max retries: peer reported corrupt request".toList
/-- "unrecognized response header". -/
def detailBadHeader : Bytes := asciiBytes "unrecognized response header".toList

/-! ### Sends -/

/-- The packet the next send carries (R233): the request, or the control packet. -/
def Session.txUnit (se : Session) : Bytes :=
  match se.txSel with
  | .original => se.txPkt
  | .resendRq => resendPacket

/-- The send on the stream (R233): the framed packet is written, `st` goes to `AWAITING`, the synchronizer starts. -/
def State.sendStream (s : State) : State :=
  let se := s.sess
  (s.streamTx se.linkId (frameS s.cfg se.txUnit)).setSess { se.startAcquire with st := .awaiting }

/-- The session is about to send on the stream. -/
def Session.atStreamSend (se : Session) : Bool :=
  se.onStream && decide (se.st = .sending)

/-- The session is about to write on the bus. -/
def Session.atBusWrite (se : Session) : Bool :=
  se.onBus && decide (se.bx = .write) && decide (se.st = .sending)

/-! ### Classes -/

/-- A recoverable failure (R237 to R239, R243, R244): with budget left, one record and a retry prepared by
`prepare`; else the terminal error. -/
def Session.retryOrFail (c : Config) (se : Session) (cls : TraceClass) (a : TraceAction)
    (prepare : Session → Session) (tag : ErrTag) (detail : Bytes) : Session :=
  if budgetLeft c se then { (prepare se).record cls a with st := .retry }
  else se.raiseError cls tag detail

/-- Send the original request next (R35). -/
def Session.selectOriginal (se : Session) : Session :=
  { se with txSel := .original }

/-- Class 1, no frame (R237). -/
def Session.class1 (c : Config) (se : Session) : Session :=
  Session.retryOrFail c
    { se with readCrcErrors := bump c se.readCrcErrors, nNoframe := se.nNoframe + 1 }
    .c1NoFrame .resendOriginal Session.selectOriginal .noResponse detailNoResponse

/-- The recovery of class 2 (R238): the control packet on the stream, the whole exchange on the bus. -/
def Session.prepareClass2 (se : Session) : Session :=
  match se.kind with
  | .stream => { se with txSel := .resendRq }
  | .bus => { se with txSel := .original }

/-- The action of class 2 (R238). -/
def class2Action : Kind → TraceAction
  | .stream => .sendRqResend
  | .bus => .redoExchange

/-- Class 2, corrupt frame (R238). -/
def Session.class2 (c : Config) (se : Session) : Session :=
  Session.retryOrFail c
    { se with readCrcErrors := bump c se.readCrcErrors, nCorrupt := se.nCorrupt + 1 }
    .c2Corrupt (class2Action se.kind) Session.prepareClass2 .corruptResponse detailCorrupt

/-- Class 3, negative acknowledgement (R239). -/
def Session.class3 (c : Config) (se : Session) : Session :=
  Session.retryOrFail c
    { se with writeCrcErrors := bump c se.writeCrcErrors, nNak := se.nNak + 1 }
    .c3Nak .resendOriginal Session.selectOriginal .peerReportedCorruptRequest detailPeerCorrupt

/-- Class 4, success (R240). -/
def Session.class4 (payload : Bytes) (se : Session) : Session :=
  { se.record .c4Success .none with result := .value (parseS payload), st := .success }

/-- Class 5, remote call failure (R241). -/
def Session.class5 (payload : Bytes) (se : Session) : Session :=
  se.raiseError .c5RemoteFail .remoteCallFault (parseF payload)

/-- Class 6, unrecognized header (R242). -/
def Session.class6 (se : Session) : Session :=
  se.raiseError .c6BadHeader .unrecognizedHeader detailBadHeader

/-- The recovery after a bus header failure (R243, R244): under `READ_ONLY` the next exchange leaves out the write. -/
def Session.prepareHeader (c : Config) (se : Session) : Session :=
  match c.busHdrPolicy with
  | .rewrite => se
  | .readOnly => { se with skipWrite := true }

/-- The action after a bus header failure (R243, R244). -/
def headerAction (c : Config) : TraceAction :=
  match c.busHdrPolicy with
  | .rewrite => .redoExchange
  | .readOnly => .rereadHeader

/-- Bus header checksum failure (R243). -/
def Session.classHdrBad (c : Config) (se : Session) : Session :=
  Session.retryOrFail c
    { se with
      readCrcErrors := bump c se.readCrcErrors, nCorrupt := se.nCorrupt + 1, nHdr := se.nHdr + 1 }
    .c2Corrupt (headerAction c) (Session.prepareHeader c) .corruptResponse detailCorrupt

/-- Bus header negative acknowledgement (R244). -/
def Session.classHdrNak (c : Config) (se : Session) : Session :=
  Session.retryOrFail c
    { se with
      writeCrcErrors := bump c se.writeCrcErrors, nNak := se.nNak + 1, nHdr := se.nHdr + 1 }
    .c3Nak (headerAction c) (Session.prepareHeader c) .peerReportedCorruptRequest detailPeerCorrupt

/-- The class of a valid frame by its status byte (R236). -/
def Session.classStatus (c : Config) (payload : Bytes) (se : Session) : Session :=
  match payload with
  | [] => se.class2 c
  | h :: _ =>
    if h = statusE then se.class3 c
    else if h = statusS then se.class4 payload
    else if h = statusF then se.class5 payload
    else se.class6

/-- The class of an acquired frame (R236): the checksum first. -/
def Session.classFrame (c : Config) (p : Bytes) (se : Session) : Session :=
  let se' := { se with ckOk := verify p }
  if verify p then se'.classStatus c (payloadOf p) else se'.class2 c

/-- The choice of class by the acquisition's result (R236): the registers the classifier leaves. -/
def Session.classify (c : Config) (se : Session) : Session :=
  match se.acq with
  | .noFrame => se.class1 c
  | .hdrBad => se.classHdrBad c
  | .hdrNak => se.classHdrNak c
  | .frame p => se.classFrame c p

/-- The checksum the classifier computes (R236), of a frame only. -/
def State.checkAcquired (s : State) : State :=
  match s.sess.acq with
  | .noFrame => s
  | .hdrBad => s
  | .hdrNak => s
  | .frame p => s.runVerify p

/-- The step that leaves `CLASSIFYING` (R236, 60_exceptions.md R336), on the session the step is for. -/
def State.classifyStep (s : State) : State :=
  s.checkAcquired.leaveClassifying (s.sess.classify s.cfg)

/-- The session is classifying. -/
def Session.atClassify (se : Session) : Bool :=
  se.isOpen && decide (se.st = .classifying)

/-- What `CLASSIFY` returns, read from the registers the classifier leaves: class and action of the new record, and the
next state; with `FATAL`, also the error the call ends with in this step. -/
def classified (se : Session) : Reply :=
  match se.trace.getLast? with
  | none => .nothing
  | some r =>
    match se.st, se.result with
    | .fatal, .err tag a d => .classifiedRaised r.cls r.action tag a d
    | st, _ => .classified r.cls st r.action

/-- `CLASSIFY` (R236). -/
def execClassify (s : State) : Result :=
  if s.sess.atClassify then .next (s.classifyStep.setReply (classified (s.sess.classify s.cfg)))
  else .fault .notClassifying

/-! ### Start of a call -/

/-- The registers of a session when a call starts (R231). -/
def Session.startCall (se : Session) (pkt : Bytes) : Session :=
  { se with
    txPkt := pkt, txSel := .original, skipWrite := false, attempts := 0, nNoframe := 0, nCorrupt := 0,
    nNak := 0, nHdr := 0, trace := [], result := .pending, st := .sending, waiting := none }

/-- The address operand of the encoder in a call (R231): the session's on the stream, none on the bus. -/
def Session.encodeAddress (se : Session) : Option Byte :=
  match se.kind with
  | .stream => some se.addr
  | .bus => none

/-- Start of a call (R231), the lock being free. On an encoding error nothing is written and the host's call ends
with `ENCODE_ERROR` (60_exceptions.md R337; the detail string is a free value, log entry 8); a call that was
waiting waits no more. -/
def State.startCall (s : State) (fn : Word16) (args : List Value) : State :=
  let se := s.sess
  match encodeRequest se.encodeAddress fn args with
  | some pkt => ((s.runCrc (payloadOf pkt)).takeLock se.linkId).setSess (se.startCall pkt)
  | none =>
    ((s.setReply (.raised .encodeError se.addr (Config.freeDetail s.free))).bumpFree).setSess
      { se with waiting := none }

/-- A call waits for the lock (45_host_ops.md R303 (c), log entry 15). -/
def State.waitCall (s : State) (fn : Word16) (args : List Value) : State :=
  s.setSess { s.sess with waiting := some (fn, args) }

/-! ### Internal transitions -/

/-- The acquirer has come back to its idle state (R235). -/
def Session.acquirerIdle (se : Session) : Bool :=
  match se.kind with
  | .stream => decide (se.fs = .idle)
  | .bus => decide (se.bx = .idle)

/-- The end of an acquisition (R235). -/
def Session.acquired (se : Session) : Session :=
  { se with attempts := se.attempts + 1, st := .classifying }

/-- `SENDING`: the send on the stream (R233), the start of the exchange or its write on the bus (R234). -/
def State.sendStep (s : State) : State :=
  let se := s.sess
  match se.kind with
  | .stream => s.sendStream
  | .bus =>
    match se.bx with
    | .idle => s.setSess se.startExchange
    | .write => s.writeRequest
    | .hdr => s
    | .body => s

/-- The internal transition of the session the step is for (00_scope.md R13 (c), 10_state.md R27); nothing
changes where it has none: closed, idle with no call that may start, or waiting for the environment. The step that
leaves `CLASSIFYING` goes through `FATAL` to `IDLE` where an error is raised (60_exceptions.md R336), so that no run
rests in `FATAL` (DEDUCED, log entry 34); the condition of 43_retry_engine.md R247 names it, and so does this. -/
def State.internal (s : State) : State :=
  let se := s.sess
  if se.isOpen then
    match se.st with
    | .idle =>
      match se.waiting with
      | none => s
      | some (fn, args) => if s.lockOf se.linkId = none then s.startCall fn args else s
    | .sending => s.sendStep
    | .awaiting => if se.acquirerIdle then s.setSess se.acquired else s
    | .classifying => s.classifyStep
    | .success => s.endCall se
    | .retry => s.setSess { se with st := .sending }
    | .fatal => s.endCall se
  else s

end Sys2Proof.Machine
end

