-- ==== Sys2Proof/Machine/HostOps.lean ====
section
/-!
DEFINITION. The meanings of the host operations (45_host_ops.md R301 to R306) and of the event `RESET`
(70_reset_and_hazards.md R380).
-/

namespace Sys2Proof.Machine

/-- The session registers as `OPEN` leaves them: those R301 names as it says, and all others from zero, since no state
outlives a connection (00_scope.md R6 (d), R305, 93_implementation_defined.md U22; log entry 26). -/
def Session.opened (kind : Kind) (addr : Byte) (link : LinkId) : Session :=
  { Session.reset with kind := kind, addr := addr, linkId := link, isOpen := true }

/-- The session registers as `CLOSE` leaves them: `is_open` is 0 and what the connection held is gone (R305, U22; log
entry 26). `kind`, `addr` and `link_id` are written by `OPEN` only (10_state.md R36). -/
def Session.closed (se : Session) : Session :=
  { Session.reset with kind := se.kind, addr := se.addr, linkId := se.linkId }

/-- `OPEN(kind, addr, link_id)` (R301). It does not clear the link's queues (70_reset_and_hazards.md R384); that a
freshly opened handle finds in them what they held when the last one closed is the model's choice (log entry 33). -/
def execOpenSession (kind : Kind) (addr : Byte) (link : LinkId) (s : State) : Result :=
  let se := s.sess
  let se' := Session.opened kind addr link
  if se.isOpen then .refused .sessionAlreadyOpen
  else if addrMax < addr.toNat then .next (s.setReply (.openError .badAddress addr))
  else
    match s.regEntry link with
    | none =>
      .next ((((s.setReg link ⟨kind, 1⟩).freeLock link).setSess se').setReply .done)
    | some e =>
      if e.kind = kind then .next (((s.setReg link ⟨e.kind, e.users + 1⟩).setSess se').setReply .done)
      else .next (s.setReply (.openError .kindMismatch addr))

/-- One user of a link's handle less; the handle closes with its last user (R305). DESIGN CHOICE (log entry 33): the
link's queues keep what they hold, and bytes still unsent may leave afterwards, where the spec is silent. -/
def State.leaveLink (s : State) (l : LinkId) : State :=
  match s.regEntry l with
  | none => s
  | some e => if e.users - 1 = 0 then s.dropReg l else s.setReg l { e with users := e.users - 1 }

/-- `CLOSE` (R305). -/
def execCloseSession (s : State) : Result :=
  let se := s.sess
  match se.refusal with
  | some r => .refused r
  | none => .next (((s.leaveLink se.linkId).setSess se.closed).setReply .done)

/-- `CALL(func_num, args)` (R302, R303): the call starts when the link's lock is free (43_retry_engine.md R231) and
waits while another session holds it. Its further steps are internal transitions and events. -/
def execCall (fn : Word16) (args : List Value) (s : State) : Result :=
  let se := s.sess
  match se.refusal with
  | some r => .refused r
  | none => if s.lockOf se.linkId = none then .next (s.startCall fn args) else .next (s.waitCall fn args)

/-- An operation that reads a register of an open, idle session and changes none (R304, R306). -/
def readRegister (value : Session → Reply) (s : State) : Result :=
  match s.sess.refusal with
  | some r => .refused r
  | none => .next (s.setReply (value s.sess))

/-- The counter `RD_CNT` names (R304). -/
def Session.counter (se : Session) : Which → Nat
  | .readCrcErrors => se.readCrcErrors
  | .writeCrcErrors => se.writeCrcErrors

/-- `RD_CNT(which)` (R304). -/
def execRdCnt (which : Which) (s : State) : Result :=
  readRegister (fun se => .count (se.counter which)) s

/-- `RD_TRACE` (R306). -/
def execRdTrace (s : State) : Result :=
  readRegister (fun se => .trace se.trace) s

/-- `RD_DIAG` (R306). -/
def execRdDiag (s : State) : Result :=
  readRegister (fun se => .diag se.attempts se.nNoframe se.nCorrupt se.nNak se.nHdr) s

/-- `RESET` (70_reset_and_hazards.md R380): every register to the value of 10_state.md R41. The environment's queues
are unspecified afterwards: free values (log entry 6). The configuration is constant (10_state.md R37); the agenda
and the records of what went over the wires are the environment's (log entry 22). -/
def execReset (s : State) : Result :=
  .next
    { s with
      crc := State.reset.crc, sessions := State.reset.sessions, registry := State.reset.registry,
      locks := State.reset.locks, reply := State.reset.reply,
      rxFifo := Assoc.ofList [] (Config.freeQueues s.free),
      txFifo := Assoc.ofList [] (Config.freeQueues (s.free + 1)),
      free := s.free + 2 }

end Sys2Proof.Machine
end

