-- ==== Sys2Proof/Machine/Parser.lean ====
section
/-!
DEFINITION. The meanings of the response parser's operations (44_response_parser.md R281, R283): pure functions of
the payload (R285), they touch no register. On a payload whose status byte is another one no rule states the result
(R280): it is a free value of that payload (log entry 24).
-/

namespace Sys2Proof.Machine

/-- `PARSE_S(payload)` (R281). -/
def execParseS (payload : Bytes) (s : State) : Result :=
  if payload.head? = some statusS then .next (s.setReply (.returned (parseS payload)))
  else .next (s.setReply (.returned (Config.freeParsed payload)))

/-- `PARSE_F(payload)` (R283). -/
def execParseF (payload : Bytes) (s : State) : Result :=
  if payload.head? = some statusF then .next (s.setReply (.bytes (parseF payload)))
  else .next (s.setReply (.bytes (Config.freeMessage payload)))

end Sys2Proof.Machine
end

