-- ==== Sys2Proof/Machine/Wire.lean ====
section
/-!
DEFINITION. The meanings of the wire rows: what the engine does with a unit of each format at the point where it
handles that format (30_encoding.md R100 to R115; log entry 12), and with bytes that are no unit there (R114; log entry
35).
-/

namespace Sys2Proof.Machine

/-- The bytes of a packet: checksum, then payload (R100). -/
def packetBytes (ck : Word16) (payload : Bytes) : Bytes :=
  beBytes ck ++ payload

/-- `PKT` (R100): the container's one invariant, which is `VERIFY` of its bytes. -/
def execPkt (ck : Word16) (payload : Bytes) (s : State) : Result :=
  .next ((s.runVerify (packetBytes ck payload)).setReply (.flag (verify (packetBytes ck payload))))

/-- A packet goes out on the stream (43_retry_engine.md R233), where it is the one the session is about to send. -/
def sendPacket (packet : Bytes) (s : State) : Result :=
  if s.sess.atStreamSend ∧ s.sess.txUnit = packet then .next s.sendStream
  else .fault .sendNotDue

/-- A packet goes out on the bus (42_frame_acquirer.md R202), where it is the one the session is about to write. -/
def writePacket (packet : Bytes) (s : State) : Result :=
  if s.sess.atBusWrite ∧ s.sess.txPkt = packet then .next s.writeRequest
  else .fault .sendNotDue

/-- Bytes of the peer join the link's receive queue, whatever they are (10_state.md R40 (a), 60_exceptions.md R342). -/
def peerSends (bs : Bytes) (s : State) : Result :=
  if s.sess.onStream then .next (s.arrive s.sess.linkId bs) else .fault .noStreamLink

/-- `WIRE_S` (R101). To the peer: the send of R233. To the engine: its bytes arrive, terminator included. -/
def execWireS (d : Direction) (ck : Word16) (payload : Bytes) (s : State) : Result :=
  match d with
  | .toPeer => sendPacket (packetBytes ck payload) s
  | .toEngine => peerSends (frameS s.cfg (packetBytes ck payload)) s

/-- `WIRE_B_REQ` (R102): the data of the request write (42_frame_acquirer.md R202). -/
def execWireBReq (ck : Word16) (payload : Bytes) (s : State) : Result :=
  writePacket (packetBytes ck payload) s

/-- Bytes come in as the answer to the header read (42_frame_acquirer.md R203, R204). -/
def headerArrives (answer : Bytes) (s : State) : Result :=
  if s.sess.atHeader then .next (s.readHeader answer) else .fault .noExchange

/-- Bytes come in as the answer to the body read (42_frame_acquirer.md R205). -/
def bodyArrives (answer : Bytes) (s : State) : Result :=
  if s.sess.atBody then .next (s.readBody answer) else .fault .noExchange

/-- `BUS_HDR` (R103). -/
def execBusHdr (status length hck : Byte) (s : State) : Result :=
  headerArrives [status, length, hck] s

/-- `BUS_HDR_NAK` (42_frame_acquirer.md R204). -/
def execBusHdrNak (status length hck : Byte) (s : State) : Result :=
  headerArrives [status, length, hck] s

/-- `WIRE_B_BODY` (R104): the answer to the body read (42_frame_acquirer.md R205). -/
def execWireBBody (ck : Word16) (payload : Bytes) (s : State) : Result :=
  bodyArrives (packetBytes ck payload) s

/-- `REQ_S` (R105): the request goes out on the stream. -/
def execReqS (ck : Word16) (addr : NumField Byte) (fn : Option (NumField Word16)) (args : List Bytes)
    (s : State) : Result :=
  sendPacket (packetBytes ck (streamPayload addr fn args)) s

/-- `REQ_B` (R106): the request goes out on the bus. -/
def execReqB (ck : Word16) (fn : NumField Word16) (args : List Bytes) (s : State) : Result :=
  writePacket (packetBytes ck (busPayload fn args)) s

/-- `RQ_RESEND` (R111): the control packet goes out on the stream (43_retry_engine.md R233, R238). -/
def execRqResend (s : State) : Result :=
  if s.sess.txSel = .resendRq then sendPacket resendPacket s else .fault .sendNotDue

/-- A response packet is classified (43_retry_engine.md R236), where it is the valid frame the session is
classifying; `cls` is its class. -/
def respond (ck : Word16) (payload : Bytes) (cls : Session → Session) (s : State) : Result :=
  let se := s.sess
  let p := packetBytes ck payload
  if se.atClassify ∧ se.acq = .frame p ∧ verify p then
    .next ((s.runVerify p).leaveClassifying (cls { se with ckOk := true }))
  else .fault .notClassifying

/-- `RESP_S` (R108): class 4 (43_retry_engine.md R240). -/
def execRespS (ck : Word16) (rest : Bytes) (s : State) : Result :=
  respond ck (statusS :: rest) (Session.class4 (statusS :: rest)) s

/-- `RESP_F` (R109): class 5 (R241). -/
def execRespF (ck : Word16) (rest : Bytes) (s : State) : Result :=
  respond ck (statusF :: rest) (Session.class5 (statusF :: rest)) s

/-- `RESP_E` (R110): class 3 (R239). -/
def execRespE (ck : Word16) (rest : Bytes) (s : State) : Result :=
  respond ck (statusE :: rest) (Session.class3 s.cfg) s

/-- `RESP_RESERVED` (R114 (a)): class 6 (R242). -/
def execRespReserved (ck : Word16) (status : Byte) (rest : Bytes) (s : State) : Result :=
  respond ck (status :: rest) Session.class6 s

/-! ### Bytes that are no unit of their channel -/

/-- Bytes go out on the stream as they stand, where they are the framed packet the session is about to send
(43_retry_engine.md R233): `TERM` inside a payload is not tested for (30_encoding.md R114 (c), 70_reset_and_hazards.md
R390). -/
def sendFramed (bs : Bytes) (s : State) : Result :=
  if s.sess.atStreamSend ∧ frameS s.cfg s.sess.txUnit = bs then .next s.sendStream else .fault .sendNotDue

/-- Bytes are classified (43_retry_engine.md R236), where they are the frame the session has acquired: no valid packet
is class 2 (30_encoding.md R115). -/
def classifyBytes (bs : Bytes) (s : State) : Result :=
  if s.sess.atClassify ∧ s.sess.acq = .frame bs then .next s.classifyStep else .fault .notClassifying

/-- What the engine does with the bytes `bs` of channel `ch` that are no legal unit there (30_encoding.md R114): what it
does with any bytes in that place (DEDUCED, log entry 35). A packet fails `VERIFY` (R114 (b), 40_checksum.md R144); the
peer's bytes wait in the receive queue, where the reader ends a frame at the first `TERM` (R114 (c)); a header or a body
is the answer to its read, short or not (R114 (h), 42_frame_acquirer.md R203, R205); an acquired frame is class 2 (R114
(b), R115). -/
def execIllegal (ch : Channel) (bs : Bytes) (s : State) : Result :=
  match ch with
  | .packet => .next ((s.runVerify bs).setReply (.flag (verify bs)))
  | .streamWire .toPeer => sendFramed bs s
  | .streamWire .toEngine => peerSends bs s
  | .busWrite => writePacket bs s
  | .busHeader => headerArrives bs s
  | .busBody => bodyArrives bs s
  | .streamRequest => sendPacket bs s
  | .busRequest => writePacket bs s
  | .response => classifyBytes bs s

end Sys2Proof.Machine
end

