-- ==== Sys2Proof/Machine/Fetch.lean ====
section
/-!
DEFINITION. What a step takes off the agenda (log entries 1 and 2): an instruction, given as a constructor or
decoded from a unit of wire bytes; an act of the environment; or an internal transition of a session.
-/

namespace Sys2Proof.Machine

/-- What the fetch gives. -/
inductive Fetched where
  /-- An instruction, and the state it runs on. -/
  | run (i : Instr) (s : State)
  /-- Bytes that are no legal unit of their channel (30_encoding.md R114), and the state the engine meets them in. -/
  | illegal (ch : Channel) (bs : Bytes) (s : State)
  /-- The environment acts: bytes arrive in a queue or leave one. -/
  | environment (s : State)
  /-- The session the state has turned to takes its next internal transition. -/
  | engine (s : State)

/-- What a unit of wire bytes gives, on the state `s` that has turned to its session. -/
def fetchUnit (ch : Channel) (bs : Bytes) (s : State) : Fetched :=
  match decode s.cfg ch bs with
  | .ok i => .run i s
  | .error _ => .illegal ch bs s

/-- What a term gives: it runs; a wire row whose fields are no encoding of that row is the bytes the encoder writes for
it, whatever unit they are (log entry 35). -/
def fetchTerm (i : Instr) (s : State) : Fetched :=
  if i.wellFormed s.cfg then .run i s
  else
    match encode s.cfg i with
    | some (ch, bs) => fetchUnit ch bs s
    | none => .run i s

/-- The fetch: the head of the agenda comes off and the machine turns to its session. With nothing on the agenda
the session it is at takes its next internal transition, if it has one (log entry 2). -/
def fetch (s : State) : Fetched :=
  match s.agenda with
  | [] => .engine s
  | .op sid i :: rest => fetchTerm i (s.select sid rest)
  | .unit sid ch bs :: rest => fetchUnit ch bs (s.select sid rest)
  | .arrive l bs :: rest => .environment ((s.select s.cur rest).arrive l bs)
  | .transmit l n :: rest => .environment ((s.select s.cur rest).transmit l n)
  | .tick sid :: rest => .engine (s.select sid rest)

/-- The state with a unit of wire bytes put where the next fetch takes it, for the session the state is at. -/
def State.withUnit (s : State) (ch : Channel) (bs : Bytes) : State :=
  { s with agenda := .unit s.cur ch bs :: s.agenda }

end Sys2Proof.Machine
end

