-- ==== Sys2Proof/Machine/Dispatch.lean ====
section
/-!
DEFINITION. One arm for each constructor of Instr: the meaning of every instruction.
-/

namespace Sys2Proof.Machine

def exec (i : Instr) (s : State) : Host.Outcome State Fault Refusal :=
  match i with
  | .pkt ck payload => Sys2Proof.Machine.execPkt ck payload s
  | .wireS d ck payload => Sys2Proof.Machine.execWireS d ck payload s
  | .wireBReq ck payload => Sys2Proof.Machine.execWireBReq ck payload s
  | .busHdr status length hck => Sys2Proof.Machine.execBusHdr status length hck s
  | .busHdrNak status length hck => Sys2Proof.Machine.execBusHdrNak status length hck s
  | .wireBBody ck payload => Sys2Proof.Machine.execWireBBody ck payload s
  | .reqS ck addr fn args => Sys2Proof.Machine.execReqS ck addr fn args s
  | .reqB ck fn args => Sys2Proof.Machine.execReqB ck fn args s
  | .respS ck rest => Sys2Proof.Machine.execRespS ck rest s
  | .respF ck rest => Sys2Proof.Machine.execRespF ck rest s
  | .respE ck rest => Sys2Proof.Machine.execRespE ck rest s
  | .respReserved ck status rest => Sys2Proof.Machine.execRespReserved ck status rest s
  | .rqResend => Sys2Proof.Machine.execRqResend s
  | .crc16Init seed => Sys2Proof.Machine.execCrc16Init seed s
  | .crc16Step b => Sys2Proof.Machine.execCrc16Step b s
  | .crc16 data seed => Sys2Proof.Machine.execCrc16 data seed s
  | .mkpacket payload => Sys2Proof.Machine.execMkpacket payload s
  | .verify packet => Sys2Proof.Machine.execVerify packet s
  | .fmtArg v => Sys2Proof.Machine.execFmtArg v s
  | .fmtHex n => Sys2Proof.Machine.execFmtHex n s
  | .fmtHex2 a => Sys2Proof.Machine.execFmtHex2 a s
  | .encodeRequest address fn args => Sys2Proof.Machine.execEncodeRequest address fn args s
  | .frameS packet => Sys2Proof.Machine.execFrameS packet s
  | .decodeRequest packet kind => Sys2Proof.Machine.execDecodeRequest packet kind s
  | .decodeResponse packet => Sys2Proof.Machine.execDecodeResponse packet s
  | .renderForLog packet => Sys2Proof.Machine.execRenderForLog packet s
  | .acquireStream e => Sys2Proof.Machine.execAcquireStream e s
  | .flushRecover => Sys2Proof.Machine.execFlushRecover s
  | .busExchange answer => Sys2Proof.Machine.execBusExchange answer s
  | .hdrCheck => Sys2Proof.Machine.execHdrCheck s
  | .classify => Sys2Proof.Machine.execClassify s
  | .parseS payload => Sys2Proof.Machine.execParseS payload s
  | .parseF payload => Sys2Proof.Machine.execParseF payload s
  | .openSession kind addr link => Sys2Proof.Machine.execOpenSession kind addr link s
  | .closeSession => Sys2Proof.Machine.execCloseSession s
  | .call fn args => Sys2Proof.Machine.execCall fn args s
  | .rdCnt which => Sys2Proof.Machine.execRdCnt which s
  | .rdTrace => Sys2Proof.Machine.execRdTrace s
  | .rdDiag => Sys2Proof.Machine.execRdDiag s
  | .reset => Sys2Proof.Machine.execReset s

end Sys2Proof.Machine
end

