-- ==== Sys2Proof/Machine/Step.lean ====
section
/-!
DEFINITION. One step of the machine, and how an instruction is put where the next step fetches it.
-/

namespace Sys2Proof.Machine

/-- One step (00_scope.md R13): an instruction of the agenda runs, the engine meets bytes that are no legal unit, the
environment acts, or a session takes an internal transition. -/
def step (s : State) : Host.Outcome State Fault Refusal :=
  match fetch s with
  | .run i t => exec i t
  | .illegal ch bs t => execIllegal ch bs t
  | .environment t => .next t
  | .engine t => .next t.internal

/-- The state with a table word put where the next step fetches it. -/
def State.withFetchWord (s : State) (nbits w : Nat) : State :=
  s.withUnit (tableChannel s.cfg nbits (tableBytes nbits w)) (tableBytes nbits w)

end Sys2Proof.Machine
end

