-- ==== Sys2Proof/Safety.lean ====
section
/-!
DEFINITION. What counts as a safe state: the invariants of a session, of the registry and of the locks, and the
runs of several instructions the statements speak of.
-/

namespace Sys2Proof.Machine

/-! ### Sessions -/

/-- What holds of the registers of every session, on an instance with parameters `c`. -/
structure Session.Inv (c : Config) (se : Session) : Prop where
  /-- A closed session holds nothing of a connection and runs nothing: every register but `kind`, `addr` and `link_id` is
  at its reset value (00_scope.md R6 (d), 45_host_ops.md R300, R305, 93_implementation_defined.md U22). -/
  closed_gone : se.isOpen = false → se = se.closed
  /-- The address of an open session is in range (45_host_ops.md R301, 20_memory.md R71). -/
  addr_range : se.isOpen = true → se.addr.toNat ≤ addrMax
  /-- Outside `SENDING` and `AWAITING` the acquirer is idle (43_retry_engine.md R235, 45_host_ops.md R300). -/
  acquirer_quiet : se.st ≠ .sending → se.st ≠ .awaiting → se.fs = .idle ∧ se.bx = .idle
  /-- While `SENDING` the synchronizer is idle and the exchange is at its write or before (R234). -/
  sending_quiet : se.st = .sending → se.fs = .idle ∧ (se.bx = .idle ∨ se.bx = .write)
  /-- While `AWAITING` the exchange is past its write (R234). -/
  awaiting_written : se.st = .awaiting → se.bx ≠ .write
  /-- `bx` moves on bus sessions only (10_state.md R29). -/
  stream_bx : se.kind = .stream → se.bx = .idle
  /-- `fs` moves on stream sessions only (R28). -/
  bus_fs : se.kind = .bus → se.fs = .idle
  /-- On the bus `tx_sel` is always `ORIGINAL` (R35). -/
  bus_original : se.kind = .bus → se.txSel = .original
  /-- The buffer is empty while the link settles (42_frame_acquirer.md R196, R197, R198). -/
  settle_empty : se.fs = .settle → se.rxBuf = []
  /-- A finished acquisition on the stream is a frame or none (10_state.md R25). -/
  stream_acq : se.kind = .stream → (se.st = .awaiting ∧ se.fs = .idle) ∨ se.st = .classifying →
    se.acq ≠ .hdrBad ∧ se.acq ≠ .hdrNak
  /-- `skip_write` is set only between a bus header failure and the next exchange, under `READ_ONLY` (R30,
  42_frame_acquirer.md R201). -/
  skip_write : se.skipWrite = true →
    se.kind = .bus ∧ c.busHdrPolicy = .readOnly ∧ (se.st = .retry ∨ (se.st = .sending ∧ se.bx = .idle))
  /-- The lifetime counters fit `CNT_W` bits (10_state.md R31, R32). -/
  counters_fit : se.readCrcErrors ≤ 2 ^ c.cntW - 1 ∧ se.writeCrcErrors ≤ 2 ^ c.cntW - 1
  /-- `attempts` never exceeds `MAX_RETRIES` (R33). -/
  attempts_bound : se.attempts.toNat ≤ c.maxRetries
  /-- Before an attempt is finished there is budget for it (43_retry_engine.md R232). -/
  budget : se.st = .sending ∨ se.st = .awaiting ∨ se.st = .retry → se.attempts.toNat < c.maxRetries
  /-- The classes of the call share its attempts (10_state.md R34). -/
  class_sum : se.nNoframe.toNat + se.nCorrupt.toNat + se.nNak.toNat ≤ se.attempts.toNat
  /-- While `CLASSIFYING` the attempt just finished is in no class yet. -/
  class_sum_open : se.st = .classifying →
    se.nNoframe.toNat + se.nCorrupt.toNat + se.nNak.toNat < se.attempts.toNat
  /-- Each header failure is counted in the class it maps to (R34). -/
  header_sum : se.nHdr.toNat ≤ se.nCorrupt.toNat + se.nNak.toNat
  /-- One record for each attempt, also after the call (43_retry_engine.md R246). -/
  trace_length : se.st ≠ .classifying → se.trace.length = se.attempts.toNat
  /-- While `CLASSIFYING` the record of the attempt just finished is still to come. -/
  trace_length_open : se.st = .classifying → se.trace.length + 1 = se.attempts.toNat
  /-- A call in progress has no result yet (10_state.md R26). -/
  result_pending : se.st = .sending ∨ se.st = .awaiting ∨ se.st = .classifying ∨ se.st = .retry →
    se.result = .pending
  /-- `SUCCESS` holds a value (43_retry_engine.md R240). -/
  result_value : se.st = .success → ∃ v, se.result = .value v
  /-- An error names the session's address (60_exceptions.md R330), also after the call (R336). -/
  result_error : ∀ tag a d, se.result = .err tag a d → a = se.addr
  /-- `FATAL` is passed inside the step that leaves `CLASSIFYING` (R336, log entry 34). -/
  fatal_passed : se.st ≠ .fatal
  /-- A call that waits for the lock is not in flight (45_host_ops.md R303 (c)). -/
  waiting_idle : se.waiting ≠ none → se.isOpen = true ∧ se.st = .idle

/-- Every session of the state meets its invariant, on an instance with legal parameters. -/
structure SessionsInv (s : State) : Prop where
  legal : s.cfg.legal = true
  sessions : ∀ sid, (s.session sid).Inv s.cfg

/-! ### Registry and locks -/

/-- The number of open sessions on a link. -/
def State.openOn (s : State) (l : LinkId) : Nat :=
  s.sessions.countP fun e => e.2.isOpen && decide (e.2.linkId = l)

/-- The registry counts its users and keeps one kind for a link (45_host_ops.md R301, R305), the keyed stores being
in canonical form. -/
structure RegistryInv (s : State) : Prop where
  wf : Memory.wf s = true
  users : ∀ l e, s.regEntry l = some e → e.users = s.openOn l ∧ 0 < e.users
  registered : ∀ sid, (s.session sid).isOpen = true →
    ∃ e, s.regEntry (s.session sid).linkId = some e ∧ e.kind = (s.session sid).kind

/-- A lock is held by a session exactly while a call of that session is in progress on its link (20_memory.md
R72). -/
structure LocksInv (s : State) : Prop where
  registry : RegistryInv s
  quiet : ∀ sid, (s.session sid).isOpen = false → (s.session sid).st = .idle
  held : ∀ l sid, s.lockOf l = some sid ↔
    ((s.session sid).st ≠ .idle ∧ (s.session sid).linkId = l)

/-! ### Transitions -/

/-- The transitions of `st` (10_state.md R27). A raised error takes two of them in one step, `CLASSIFYING -> FATAL` and
`FATAL -> IDLE` (60_exceptions.md R336). -/
def RetryState.next : RetryState → List RetryState
  | .idle => [.sending]
  | .sending => [.awaiting]
  | .awaiting => [.classifying]
  | .classifying => [.success, .retry, .fatal]
  | .success => [.idle]
  | .retry => [.sending]
  | .fatal => [.idle]

/-- The transitions of `fs` (42_frame_acquirer.md R190 to R198). -/
def SyncState.next : SyncState → List SyncState
  | .idle => [.ck0]
  | .ck0 => [.ck1, .settle]
  | .ck1 => [.body, .settle]
  | .body => [.idle, .settle]
  | .settle => [.idle]

/-- The transitions of `bx` (42_frame_acquirer.md R201 to R205). -/
def BusState.next : BusState → List BusState
  | .idle => [.write, .hdr]
  | .write => [.hdr]
  | .hdr => [.idle, .body]
  | .body => [.idle]

/-- The next step is the event `RESET`. -/
def State.resets (s : State) : Prop :=
  ∃ u, fetch s = .run .reset u

/-! ### Readings of the spec the statements compare with -/

/-- One step of the bit-serial form (40_checksum.md R147). -/
def serialBit (c : Word16) (d : Bool) : Word16 :=
  if (c.getLsbD 15 ^^ d) then (c <<< 1) ^^^ poly else c <<< 1

/-- The bit-serial form of `CRC16_STEP` (R147): the byte's most significant bit first. -/
def bitSerial (c : Word16) (b : Byte) : Word16 :=
  [7, 6, 5, 4, 3, 2, 1, 0].foldl (fun r i => serialBit r (b.getLsbD i)) c

/-- The number a string of decimal digits stands for, on top of `acc`. -/
def natOfDigits : Nat → List Char → Option Nat
  | acc, [] => some acc
  | acc, c :: cs =>
    if '0'.toNat ≤ c.toNat ∧ c.toNat ≤ '9'.toNat then natOfDigits (10 * acc + (c.toNat - '0'.toNat)) cs
    else none

/-- The number a canonical decimal form stands for (00_scope.md R12): digits with no leading zeros, `"0"` for 0. -/
def natOfCanonical (cs : List Char) : Option Nat :=
  if cs = [] ∨ (cs.head? = some '0' ∧ cs ≠ ['0']) then none else natOfDigits 0 cs

/-- The integer a canonical decimal form stands for (R12): an optional minus sign, never in front of 0. -/
def intOfCanonical : List Char → Option Int
  | '-' :: ds => if ds = ['0'] then none else (natOfCanonical ds).map fun m => -(m : Int)
  | ds => (natOfCanonical ds).map fun m => (m : Int)

/-- The form of an argument is ASCII and free of `SEP` (41_packet_codec.md R167). -/
def plainArg (v : Value) : Bool :=
  encodable v && (asciiBytes (fmtArg v)).all fun b => decide (b ≠ sep)

/-- A string argument with a character above `0x7F` (R164 a). -/
def nonAsciiArg : Value → Bool
  | .str s => s.any fun c => decide (0x7F < c.toNat)
  | _ => false

/-! ### Frames -/

/-- Between `s` and `t` at most the registers of the session `s` is at, the stream queues of its link and the bus
record have changed. -/
structure SameElsewhere (s t : State) : Prop where
  cfg : t.cfg = s.cfg
  crc : t.crc = s.crc
  registry : t.registry = s.registry
  locks : t.locks = s.locks
  sent : t.sent = s.sent
  cur : t.cur = s.cur
  agenda : t.agenda = s.agenda
  reply : t.reply = s.reply
  free : t.free = s.free
  sessions : ∀ sid, sid ≠ s.cur → t.session sid = s.session sid
  rx : ∀ l, l ≠ s.sess.linkId → t.rx l = s.rx l
  tx : ∀ l, l ≠ s.sess.linkId → t.tx l = s.tx l

/-! ### Runs of several instructions -/

/-- Instructions one after another, each answering a next state. -/
def runInstrs : List Instr → State → Result
  | [], s => .next s
  | i :: is, s =>
    match exec i s with
    | .next t => runInstrs is t
    | .fault r => .fault r
    | .refused r => .refused r

/-- One attempt on a stream whose peer stays silent: the send, the timeout in the checksum read, the end of the
settle pause, the end of the acquisition, the classification (95_test_vectors.md program P3). -/
def State.silentAttempt (s : State) : State :=
  ((s.internal.onRxTimeout).onSettleDone).internal.internal

/-- A call on a silent stream from its first send: `n` attempts, and a retry before each but the first. -/
def State.silentAttempts : Nat → State → State
  | 0, s => s
  | 1, s => s.silentAttempt
  | n + 2, s => State.silentAttempts (n + 1) s.silentAttempt.internal

end Sys2Proof.Machine
end

