-- ==== Sys2Proof/Certificates/Slice0/Obligations.lean ====
section
/-!
DEFINITION. The statements for the provers. Each says in its docstring which rules of spec/ it formalises. A next
state is written as the state before with the registers that change, so that each equation is also the frame: what it
does not name is unchanged. A statement over every state holds for every instance (`cfg`) and for every value of the
counter `free`.
-/

open Sys2Proof Sys2Proof.Machine

/-! ### Encoding -/

/-- Words written out from 30_encoding.md and 95_test_vectors.md decode to the units they stand for, and a damaged
one is rejected by name. -/
def Obligations.DecoderReadsWrittenWords : Prop :=
  decode Config.default .response [0x61, 0x56, 0x53, 0x1E, 0x37] = .ok (.respS 0x6156 [0x1E, 0x37]) ∧
  decode Config.default .streamRequest [0xCF, 0x45, 0x52, 0x1E, 0x30, 0x30, 0x1E, 0x30]
    = .ok (.reqS 0xCF45 (.value 0x00) (some (.value 0x0000)) []) ∧
  decode Config.default .busRequest [0xF8, 0xA6, 0x32, 0x61, 0x1E, 0x37, 0x1E, 0x30]
    = .ok (.reqB 0xF8A6 (.value 0x002A) [[0x37], [0x30]]) ∧
  decode Config.default .busHeader [0x00, 0x05, 0xFA] = .ok (.busHdr 0x00 0x05 0xFA) ∧
  decode Config.default .busHeader [0x45, 0x00, 0xBA] = .ok (.busHdrNak 0x45 0x00 0xBA) ∧
  decode Config.default .streamRequest [0x18, 0x61, 0x45] = .ok .rqResend ∧
  decode Config.default .response [0x18, 0x61, 0x45] = .ok (.respE 0x1861 []) ∧
  decode Config.default .response [0x61, 0x56, 0x53, 0x1E, 0x33] = .error .badChecksum

/-- Decoding what the encoder writes for a well-formed wire unit gives the unit back, on every instance (30_encoding.md
R100 to R111). -/
def Obligations.DecodeOfEncodeIsIdentity : Prop :=
  ∀ (c : Config) (i : Instr) (ch : Channel) (bs : Bytes),
    i.wellFormed c = true → encode c i = some (ch, bs) → decode c ch bs = .ok i

/-- What the decoder accepts is well formed, and the encoder writes it back to the same bytes in the same channel: no
two byte sequences of a channel stand for one unit. -/
def Obligations.DecodedUnitsReencodeToTheSameBytes : Prop :=
  ∀ (c : Config) (i : Instr) (ch : Channel) (bs : Bytes),
    decode c ch bs = .ok i → i.wellFormed c = true ∧ encode c i = some (ch, bs)

/-- A step runs the instruction it fetches: an operation given as a constructor, a unit of wire bytes that decodes, a
table word; on bytes that are no legal unit it does what the engine does on them (30_encoding.md R114), and a wire row
whose fields are no encoding of it is the bytes it is written as (log entry 35). Otherwise the environment acts or the
session takes an internal transition (log entries 1, 2). -/
def Obligations.StepRunsWhatIsFetched : Prop :=
  ∀ s : State,
    (∀ sid i rest, s.agenda = .op sid i :: rest → i.wellFormed s.cfg = true →
      step s = exec i (s.select sid rest)) ∧
    (∀ sid i rest, s.agenda = .op sid i :: rest → i.wellFormed s.cfg = false → ∃ ch bs,
      encode s.cfg i = some (ch, bs) ∧ step s = step { s with agenda := .unit sid ch bs :: rest }) ∧
    (∀ sid ch bs rest e, s.agenda = .unit sid ch bs :: rest → decode s.cfg ch bs = .error e →
      step s = execIllegal ch bs (s.select sid rest)) ∧
    (∀ nbits w e, decode s.cfg (tableChannel s.cfg nbits (tableBytes nbits w)) (tableBytes nbits w) = .error e →
      step (s.withFetchWord nbits w)
        = execIllegal (tableChannel s.cfg nbits (tableBytes nbits w)) (tableBytes nbits w) s) ∧
    (∀ sid ch bs rest i, s.agenda = .unit sid ch bs :: rest → decode s.cfg ch bs = .ok i →
      step s = exec i (s.select sid rest)) ∧
    (∀ nbits w i, decode s.cfg (tableChannel s.cfg nbits (tableBytes nbits w)) (tableBytes nbits w) = .ok i →
      step (s.withFetchWord nbits w) = exec i s) ∧
    (∀ sid rest, s.agenda = .tick sid :: rest → step s = .next (s.select sid rest).internal) ∧
    (s.agenda = [] → step s = .next s.internal) ∧
    (∀ l bs rest, s.agenda = .arrive l bs :: rest → step s = .next ((s.select s.cur rest).arrive l bs)) ∧
    (∀ l n rest, s.agenda = .transmit l n :: rest → step s = .next ((s.select s.cur rest).transmit l n))

/-! ### Checksum -/

/-- `CRC16_STEP` is the bit-serial shift register of 40_checksum.md R147, on every register value and byte, and
changes nothing but `crc`. -/
def Obligations.Crc16StepIsBitSerial : Prop :=
  ∀ (s : State) (b : Byte), exec (.crc16Step b) s = .next ((s.setCrc (bitSerial s.crc b)).setReply .done)

/-- `CRC16_INIT` loads the seed; `CRC16` is `CRC16_INIT` and then `CRC16_STEP` over the bytes in order, and returns the
register (R140, R142). -/
def Obligations.Crc16IsInitThenSteps : Prop :=
  ∀ (s : State) (data : Bytes) (seed : Word16),
    exec (.crc16Init seed) s = .next ((s.setCrc seed).setReply .done) ∧
    ∃ t, runInstrs (.crc16Init seed :: data.map .crc16Step) s = .next t ∧
      exec (.crc16 data seed) s = .next ((s.setCrc t.crc).setReply (.word t.crc))

/-- Chaining (R146): the checksum of two pieces is that of the second, seeded with that of the first. -/
def Obligations.Crc16Chains : Prop :=
  ∀ (s t : State) (a b : Bytes) (seed : Word16), exec (.crc16 a seed) s = .next t →
    exec (.crc16 (a ++ b) seed) s = exec (.crc16 b t.crc) s

/-- Residue (R148): the checksum of a payload followed by its own checksum bytes is 0; so `VERIFY` of a packet with a
payload is the test that the payload followed by the two checksum bytes has checksum 0. That `VERIFY` leaves the
payload's checksum in `crc` is the model's reading, log entry 10. -/
def Obligations.ResidueOfPayloadAndChecksumIsZero : Prop :=
  ∀ (s : State) (p : Bytes),
    exec (.crc16 (p ++ beBytes (crc16 p seed0)) seed0) s = .next ((s.setCrc 0x0000).setReply (.word 0x0000)) ∧
    ∀ hi lo : Byte, p ≠ [] →
      exec (.verify (hi :: lo :: p)) s = .next ((s.setCrc (crc16 p seed0)).setReply
        (.flag (decide (crc16 (p ++ [hi, lo]) seed0 = 0x0000))))

/-- `MKPACKET` puts the checksum in front, bits 15 to 8 first (R143), and `VERIFY` of the packet is true exactly for a
non-empty payload (R149, first sentence). That `MKPACKET` leaves the checksum in `crc` is the model's reading, log
entry 10. -/
def Obligations.MadePacketVerifiesUnlessEmpty : Prop :=
  ∀ (s : State) (p : Bytes), ∃ hi lo : Byte,
    crc16 p seed0 = be16 hi lo ∧
    exec (.mkpacket p) s = .next ((s.setCrc (crc16 p seed0)).setReply (.bytes (hi :: lo :: p))) ∧
    ∃ t, exec (.verify (hi :: lo :: p)) s = .next t ∧ t.reply = .flag (decide (p ≠ []))

/-- `VERIFY` (R144): true exactly for more than two bytes of which the first two, big-endian, are the checksum of the
rest. Nothing but `crc` changes. What `crc` holds afterwards, the checksum computed or, for two bytes or fewer, its
value before, is the model's reading, log entry 10 (10_state.md R21 lets `crc` be local). -/
def Obligations.VerifyComparesChecksums : Prop :=
  ∀ (s : State) (packet : Bytes), ∃ (t : State) (b : Bool),
    exec (.verify packet) s = .next t ∧ t = (s.setCrc t.crc).setReply (.flag b) ∧
    (b = true ↔ ∃ hi lo payload, packet = hi :: lo :: payload ∧ payload ≠ [] ∧
      crc16 payload seed0 = be16 hi lo) ∧
    (2 < packet.length → t.crc = crc16 (packet.drop 2) seed0) ∧
    (packet.length ≤ 2 → t.crc = s.crc)

/-- Changing any single bit of a valid packet makes `VERIFY` false (R149). -/
def Obligations.SingleBitErrorFailsVerify : Prop :=
  ∀ (s : State) (packet : Bytes) (i j : Nat) (b : Byte),
    verify packet = true → packet[i]? = some b → j < 8 →
    ∃ t, exec (.verify (packet.set i (b ^^^ (1#8 <<< j)))) s = .next t ∧ t.reply = .flag false

/-- Leading zero bytes leave the checksum unchanged (70_reset_and_hazards.md R395 (a)). -/
def Obligations.LeadingZeroBytesLeaveChecksum : Prop :=
  ∀ (s : State) (k : Nat) (p : Bytes),
    exec (.crc16 (List.replicate k 0x00 ++ p) seed0) s = exec (.crc16 p seed0) s

/-! ### Codec -/

/-- `FMT_HEX` gives one to four lowercase digits with no leading zero that read back as the number; `FMT_HEX2` gives
exactly two that read back as the address (41_packet_codec.md R162; `hexNumber` reads lowercase digits only, most
significant first). -/
def Obligations.HexFormsReadBack : Prop :=
  ∀ (s : State) (n : Word16) (a : Byte),
    (∃ f : Bytes, exec (.fmtHex n) s = .next (s.setReply (.bytes f)) ∧ hexNumber 0 f = some n.toNat ∧
      1 ≤ f.length ∧ f.length ≤ 4 ∧ (f.head? = some 0x30 → f = [0x30])) ∧
    (∃ g : Bytes, exec (.fmtHex2 a) s = .next (s.setReply (.bytes g)) ∧ hexNumber 0 g = some a.toNat ∧
      g.length = 2)

/-- `FMT_ARG` (R161): true and false give "1" and "0", an integer its canonical decimal form, a string itself. -/
def Obligations.ArgumentsRenderCanonically : Prop :=
  ∀ s : State,
    exec (.fmtArg (.bool true)) s = .next (s.setReply (.text ['1'])) ∧
    exec (.fmtArg (.bool false)) s = .next (s.setReply (.text ['0'])) ∧
    (∀ n : Int, ∃ x, exec (.fmtArg (.int n)) s = .next (s.setReply (.text x)) ∧ intOfCanonical x = some n) ∧
    (∀ x : List Char, exec (.fmtArg (.str x)) s = .next (s.setReply (.text x)))

/-- The round-trip law (R167) on both transports, with what the two operations leave in `crc` (the model's reading, log
entry 10). -/
def Obligations.RequestRoundTrip : Prop :=
  ∀ (s : State) (fn : Word16) (args : List Value), args.all plainArg = true →
    (∀ a : Byte, ∃ p : Bytes,
      exec (.encodeRequest (some a) fn args) s
        = .next ((s.setCrc (crc16 (p.drop 2) seed0)).setReply (.bytes p)) ∧
      exec (.decodeRequest p .stream) s
        = .next ((s.setCrc (crc16 (p.drop 2) seed0)).setReply
            (.request ⟨some a, fn, args.map fun v => asciiBytes (fmtArg v)⟩))) ∧
    (∃ p : Bytes,
      exec (.encodeRequest none fn args) s
        = .next ((s.setCrc (crc16 (p.drop 2) seed0)).setReply (.bytes p)) ∧
      exec (.decodeRequest p .bus) s
        = .next ((s.setCrc (crc16 (p.drop 2) seed0)).setReply
            (.request ⟨none, fn, args.map fun v => asciiBytes (fmtArg v)⟩)))

/-- `ENCODE_REQUEST` refuses exactly when a string argument has a character above `0x7F`, and then changes no register
(R164); otherwise it gives the packet of the joined fields (R163). That `crc` then holds the payload's checksum is the
model's reading, log entry 10. -/
def Obligations.EncodeRequestRefusesExactlyNonAscii : Prop :=
  ∀ (s : State) (address : Option Byte) (fn : Word16) (args : List Value),
    (args.any nonAsciiArg = true → exec (.encodeRequest address fn args) s = .next (s.setReply .encodeError)) ∧
    (args.any nonAsciiArg = false → ∃ payload : Bytes,
      payload = requestPayload address fn (args.map fun v => asciiBytes (fmtArg v)) ∧
      exec (.encodeRequest address fn args) s
        = .next ((s.setCrc (crc16 payload seed0)).setReply
            (.bytes (beBytes (crc16 payload seed0) ++ payload))))

/-- `FRAME_S` appends `TERM` (R165). -/
def Obligations.FrameAppendsTerminator : Prop :=
  ∀ (s : State) (packet : Bytes),
    exec (.frameS packet) s = .next (s.setReply (.bytes (packet ++ [s.cfg.term])))

/-- `RENDER_FOR_LOG` (R168), on every byte sequence: the checksum bytes the packet has, each as two hex digits, between
square brackets, and then for each payload byte in order its form: a backslash doubled, a printable byte other than
`TERM` itself, any other byte a backslash, `x` and its two lowercase hex digits. Every byte given is printable ASCII. -/
def Obligations.RenderedPacketIsPrintable : Prop :=
  ∀ (s : State) (packet : Bytes), ∃ cks forms : List Bytes,
    exec (.renderForLog packet) s
      = .next (s.setReply (.bytes (0x5B :: cks.flatten ++ 0x5D :: forms.flatten))) ∧
    cks.length = (packet.take 2).length ∧ forms.length = (packet.drop 2).length ∧
    (∀ (i : Nat) (b : Byte) (f : Bytes), (packet.take 2)[i]? = some b → cks[i]? = some f → f.length = 2 ∧ hexNumber 0 f = some b.toNat) ∧
    (∀ (i : Nat) (b : Byte) (f : Bytes), (packet.drop 2)[i]? = some b → forms[i]? = some f →
      (b = 0x5C → f = [0x5C, 0x5C]) ∧
      (b ≠ 0x5C → 0x20 ≤ b.toNat → b.toNat ≤ 0x7E → b ≠ s.cfg.term → f = [b]) ∧
      (b ≠ 0x5C → b.toNat < 0x20 ∨ 0x7E < b.toNat ∨ b = s.cfg.term →
        ∃ h : Bytes, f = 0x5C :: 0x78 :: h ∧ h.length = 2 ∧ hexNumber 0 h = some b.toNat)) ∧
    ∀ b ∈ 0x5B :: cks.flatten ++ 0x5D :: forms.flatten, 0x20 ≤ b.toNat ∧ b.toNat ≤ 0x7E

/-- `DECODE_REQUEST` answers on every byte sequence: a bad checksum exactly where `VERIFY` is false, else a request or
the error for a malformed one; it changes nothing but `crc` (R166). -/
def Obligations.DecodeRequestAnswersEveryPacket : Prop :=
  ∀ (s : State) (packet : Bytes) (kind : Kind), ∃ t : State,
    exec (.decodeRequest packet kind) s = .next t ∧ t = (s.setCrc t.crc).setReply t.reply ∧
    (t.reply = .decodeError .badChecksum ↔ verify packet = false) ∧
    (verify packet = true → t.reply = .decodeError .malformed ∨ ∃ r, t.reply = .request r)

/-- `DECODE_RESPONSE` answers on every byte sequence, and the answer agrees with what the classifier does with the same
bytes as its frame (R169, 43_retry_engine.md R236); an error the classifier raises has ended the call (60_exceptions.md
R336). What `crc` holds is the model's reading, log entry 10. -/
def Obligations.DecodeResponseAgreesWithClassifier : Prop :=
  ∀ (s : State) (p : Bytes), ∃ r : Response,
    exec (.decodeResponse p) s = .next ((s.runVerify p).setReply (.response r)) ∧
    (s.sess.isOpen = true → s.sess.st = .classifying → s.sess.acq = .frame p →
      (r = .invalid →
        s.internal = (s.runVerify p).leaveClassifying (({ s.sess with ckOk := false } : Session).class2 s.cfg)) ∧
      (r = .nak →
        s.internal = (s.runVerify p).leaveClassifying (({ s.sess with ckOk := true } : Session).class3 s.cfg)) ∧
      (∀ v, r = .ok v → s.internal.sess.st = .success ∧ s.internal.sess.result = .value v) ∧
      (∀ m, r = .remoteFail m → s.internal.sess.st = .idle ∧
        s.internal.sess.result = .err .remoteCallFault s.sess.addr m ∧
        s.internal.reply = .raised .remoteCallFault s.sess.addr m) ∧
      (∀ b, r = .badHeader b → s.internal.sess.st = .idle ∧
        s.internal.sess.result = .err .unrecognizedHeader s.sess.addr detailBadHeader ∧
        s.internal.reply = .raised .unrecognizedHeader s.sess.addr detailBadHeader))

/-- `PARSE_S` (44_response_parser.md R281): after the two skipped bytes, nothing gives no value, bytes without `SEP` one
string, and otherwise the list of two or more pieces that join back to those bytes. `PARSE_F` (R283) gives the
bytes after the two skipped ones. Both change nothing, and their answer is of the payload bytes alone, whatever the
state (R285). On a payload with another first byte, or none, no rule states the result (R280): the model's choice is
that the operation answers all the same, with a free value of that payload of which nothing else is said (log entry
24). -/
def Obligations.ParsedResultFollowsSeparators : Prop :=
  ∀ payload : Bytes, ∃ (v : ReturnValue) (m : Bytes),
    (∀ s : State, exec (.parseS payload) s = .next (s.setReply (.returned v)) ∧
      exec (.parseF payload) s = .next (s.setReply (.bytes m))) ∧
    (payload.head? = some 0x53 →
      (payload.drop 2 = [] → v = .noValue) ∧
      (payload.drop 2 ≠ [] → sep ∉ payload.drop 2 → v = .str (payload.drop 2)) ∧
      (sep ∈ payload.drop 2 → ∃ l : List Bytes, v = .list l ∧ 2 ≤ l.length ∧
        joinFields l = payload.drop 2 ∧ ∀ f ∈ l, sep ∉ f)) ∧
    (payload.head? = some 0x46 → m = payload.drop 2)

/-! ### Frame acquirer -/

/-- The stream synchronizer as a function of the bytes (42_frame_acquirer.md R199 (a)): two bytes of any value, then
bytes other than `TERM` that fit the buffer, then `TERM`, give the frame without `TERM`; what follows stays in the
queue; nothing else changes. -/
def Obligations.StreamFrameIsAcquired : Prop :=
  ∀ (s : State) (c0 c1 : Byte) (d rest : Bytes),
    s.sess.isOpen = true → s.sess.kind = .stream → s.sess.fs = .ck0 →
    (∀ n, s.cfg.rxCap = some n → d.length + 2 ≤ n) → s.cfg.term ∉ d →
    s.rx s.sess.linkId = c0 :: c1 :: (d ++ s.cfg.term :: rest) →
    ∃ t, runInstrs (List.replicate (d.length + 3) (.acquireStream .rxByte)) s = .next t ∧
      t.sess = { s.sess with
        rxBuf := c0 :: c1 :: d, termSeen := true, acq := .frame (c0 :: c1 :: d), fs := .idle } ∧
      t.rx s.sess.linkId = rest ∧ t.txFifo = s.txFifo ∧ t.busLog = s.busLog ∧ SameElsewhere s t

/-- One `RxByte` in each state that accepts it (R191, R192, R194, R195, R197). -/
def Obligations.StreamByteByState : Prop :=
  ∀ (s : State) (b : Byte) (rest : Bytes),
    s.sess.isOpen = true → s.sess.kind = .stream → s.rx s.sess.linkId = b :: rest →
    (s.sess.fs = .ck0 → exec (.acquireStream .rxByte) s
      = .next ((s.setRx s.sess.linkId rest).setSess { s.sess with rxBuf := [b], fs := .ck1 })) ∧
    (s.sess.fs = .ck1 → exec (.acquireStream .rxByte) s
      = .next ((s.setRx s.sess.linkId rest).setSess { s.sess with rxBuf := s.sess.rxBuf ++ [b], fs := .body })) ∧
    (s.sess.fs = .body → b = s.cfg.term → exec (.acquireStream .rxByte) s
      = .next ((s.setRx s.sess.linkId rest).setSess
          { s.sess with termSeen := true, acq := .frame s.sess.rxBuf, fs := .idle })) ∧
    (s.sess.fs = .body → b ≠ s.cfg.term → (∀ n, s.cfg.rxCap = some n → s.sess.rxBuf.length < n) →
      exec (.acquireStream .rxByte) s
        = .next ((s.setRx s.sess.linkId rest).setSess { s.sess with rxBuf := s.sess.rxBuf ++ [b] })) ∧
    (s.sess.fs = .body → b ≠ s.cfg.term → (∃ n, s.cfg.rxCap = some n ∧ n ≤ s.sess.rxBuf.length) →
      exec (.acquireStream .rxByte) s
        = .next ((((s.setRx s.sess.linkId rest).flushIn s.sess.linkId).flushOut s.sess.linkId).setSess
            { s.sess with rxBuf := [], fs := .settle })) ∧
    (s.sess.fs = .settle → exec (.acquireStream .rxByte) s = .next (s.setRx s.sess.linkId rest))

/-- A framing failure (R193, R195, R196): a timeout in the checksum read, or in the body read before the terminator, and
`FLUSH_RECOVER` itself, empty the buffer and both queues of the link and leave the synchronizer settling; other
links and sessions keep theirs. -/
def Obligations.TimeoutFlushesAndSettles : Prop :=
  ∀ s : State, s.sess.isOpen = true → s.sess.kind = .stream →
    s.sess.fs = .ck0 ∨ s.sess.fs = .ck1 ∨ (s.sess.fs = .body ∧ s.sess.termSeen = false) →
    ∃ t, exec (.acquireStream .rxTimeout) s = .next t ∧ exec .flushRecover s = .next t ∧
      t.sess = { s.sess with rxBuf := [], fs := .settle } ∧
      t.rx s.sess.linkId = [] ∧ t.tx s.sess.linkId = [] ∧ t.busLog = s.busLog ∧ SameElsewhere s t

/-- The end of the recovery (R198): the receive queue is emptied once more and no frame is reported; the buffer is
empty. -/
def Obligations.SettleDoneReportsNoFrame : Prop :=
  ∀ s : State, s.sess.isOpen = true → s.sess.kind = .stream → s.sess.fs = .settle →
    ∃ t, exec (.acquireStream .settleDone) s = .next t ∧
      t.sess = { s.sess with acq := .noFrame, fs := .idle } ∧
      (SessionsInv s → t.sess.rxBuf = []) ∧
      t.rx s.sess.linkId = [] ∧ t.txFifo = s.txFifo ∧ t.busLog = s.busLog ∧ SameElsewhere s t

/-- An event in a state that does not accept it does not reach the engine (60_exceptions.md R342). -/
def Obligations.UnacceptedEventsChangeNothing : Prop :=
  ∀ s : State,
    (∀ e, s.sess.isOpen = false ∨ s.sess.kind = .bus ∨ s.sess.fs = .idle → exec (.acquireStream e) s = .next s) ∧
    (s.rx s.sess.linkId = [] → exec (.acquireStream .rxByte) s = .next s) ∧
    (s.sess.fs = .settle → exec (.acquireStream .rxTimeout) s = .next s) ∧
    (s.sess.fs ≠ .settle → exec (.acquireStream .settleDone) s = .next s)

/-- The bus exchange as a function of the environment's answers (42_frame_acquirer.md R206): one write, or none after
`skip_write`; the header read; the body read only after a good header that is no negative acknowledgement. -/
def Obligations.BusExchangeFollowsAnswers : Prop :=
  ∀ (s : State) (h : Bytes),
    s.sess.isOpen = true → s.sess.kind = .bus → s.sess.st = .sending → s.sess.bx = .idle → h.length ≤ 3 →
    ∃ t,
      runInstrs (.busExchange [] :: (if s.sess.skipWrite then [] else [.busExchange []]) ++ [.busExchange h]) s
        = .next t ∧
      t.busLog = s.busLog
        ++ (if s.sess.skipWrite then [] else [(s.sess.linkId, .write s.sess.addr s.sess.txPkt)])
        ++ [(s.sess.linkId, .read s.sess.addr 3 h)] ∧
      t.sess.st = .awaiting ∧ t.sess.skipWrite = false ∧ t.rxFifo = s.rxFifo ∧ t.txFifo = s.txFifo ∧
      SameElsewhere s t ∧
      t.sess = { s.sess with
        rxBuf := [], skipWrite := false, st := .awaiting, hdr := t.sess.hdr, hdrCkOk := t.sess.hdrCkOk,
        hdrNak := t.sess.hdrNak, acq := t.sess.acq, bx := t.sess.bx } ∧
      (h.length < 3 → t.sess.acq = .noFrame ∧ t.sess.bx = .idle ∧ t.sess.hdr = s.sess.hdr ∧
        t.sess.hdrCkOk = false ∧ t.sess.hdrNak = false) ∧
      (∀ a n c, h = [a, n, c] →
        (c ≠ headerSum a n → t.sess.acq = .hdrBad ∧ t.sess.bx = .idle) ∧
        (c = headerSum a n → s.cfg.isNak a = true → t.sess.acq = .hdrNak ∧ t.sess.bx = .idle) ∧
        (c = headerSum a n → s.cfg.isNak a = false → t.sess.bx = .body ∧
          ∀ r : Bytes, r.length ≤ n.toNat → ∃ u, exec (.busExchange r) t = .next u ∧
            u.sess.bx = .idle ∧ u.sess.acq = (if r.length < n.toNat then .noFrame else .frame r) ∧
            u.busLog = t.busLog ++ [(s.sess.linkId, .read s.sess.addr n.toNat r)] ∧ SameElsewhere s u))

/-- A header of three bytes at the header read (R203, R204), as the answer to the read, or by `HDR_CHECK` on the
register: the checksum is tested before the status. -/
def Obligations.HeaderChecksumIsTestedBeforeStatus : Prop :=
  ∀ (s : State) (a n c : Byte),
    s.sess.isOpen = true → s.sess.kind = .bus → s.sess.st = .awaiting → s.sess.bx = .hdr →
    ∃ (se : Session) (r : HeaderResult),
      exec (.busExchange [a, n, c]) s
        = .next ((s.logBus s.sess.linkId (.read s.sess.addr 3 [a, n, c])).setSess se) ∧
      (s.sess.hdr = ⟨a, n, c⟩ → exec .hdrCheck s = .next ((s.setSess se).setReply (.header r))) ∧
      (c ≠ ~~~(a + n) → r = .hdrBad ∧
        se = { s.sess with
          hdr := ⟨a, n, c⟩, hdrCkOk := false, hdrNak := s.cfg.isNak a, acq := .hdrBad, bx := .idle }) ∧
      (c = ~~~(a + n) → s.cfg.isNak a = true → r = .hdrNak ∧
        se = { s.sess with
          hdr := ⟨a, n, c⟩, hdrCkOk := true, hdrNak := true, acq := .hdrNak, bx := .idle }) ∧
      (c = ~~~(a + n) → s.cfg.isNak a = false → r = .ok n ∧
        se = { s.sess with hdr := ⟨a, n, c⟩, hdrCkOk := true, hdrNak := false, bx := .body })

/-- The body read (42_frame_acquirer.md R205): an answer of the declared length is the frame, a shorter one is no
frame. -/
def Obligations.BodyOfDeclaredLengthIsTheFrame : Prop :=
  ∀ (s : State) (r : Bytes),
    s.sess.isOpen = true → s.sess.kind = .bus → s.sess.st = .awaiting → s.sess.bx = .body →
    (r.length = s.sess.hdr.length.toNat → exec (.busExchange r) s
      = .next ((s.logBus s.sess.linkId (.read s.sess.addr s.sess.hdr.length.toNat r)).setSess
          { s.sess with rxBuf := r, acq := .frame r, bx := .idle })) ∧
    (r.length < s.sess.hdr.length.toNat → exec (.busExchange r) s
      = .next ((s.logBus s.sess.linkId (.read s.sess.addr s.sess.hdr.length.toNat r)).setSess
          { s.sess with acq := .noFrame, bx := .idle }))

/-! ### Sends -/

/-- The request write (42_frame_acquirer.md R202, 43_retry_engine.md R234): the whole packet goes to the session's
address. -/
def Obligations.BusWriteSendsThePacket : Prop :=
  ∀ (s : State) (r : Bytes),
    s.sess.isOpen = true → s.sess.kind = .bus → s.sess.st = .sending → s.sess.bx = .write →
    ∃ t, t = (s.logBus s.sess.linkId (.write s.sess.addr s.sess.txPkt)).setSess
        { s.sess with bx := .hdr, st := .awaiting } ∧
      s.internal = t ∧ exec (.busExchange r) s = .next t

/-- The send on the stream (43_retry_engine.md R233): the request, or after `RESEND_RQ` the control packet, goes out
followed by `TERM`, and the synchronizer starts (42_frame_acquirer.md R190). -/
def Obligations.StreamSendFramesThePacket : Prop :=
  ∀ s : State, s.sess.isOpen = true → s.sess.kind = .stream → s.sess.st = .sending →
    ∃ p : Bytes,
      (s.sess.txSel = .original → p = s.sess.txPkt) ∧ (s.sess.txSel = .resendRq → p = [0x18, 0x61, 0x45]) ∧
      s.internal = (s.setTx s.sess.linkId (s.tx s.sess.linkId ++ p ++ [s.cfg.term])).setSess
        { s.sess with st := .awaiting, rxBuf := [], termSeen := false, fs := .ck0 }

/-- The wire rows are the engine's own step on a unit of their format (the model's reading, log entry 12; 30_encoding.md
R100 to R111): a container's one invariant is `VERIFY`; the packet due is sent by the internal transition; a header or
a body answers the bus read; the peer's frame joins the receive queue; the response that is the frame being
classified is classified. Bytes that are no legal unit (R114) meet the same steps (log entry 35): a packet's answer is
that of `VERIFY`, the peer's bytes wait in the receive queue, bytes that answer a bus read do so, an acquired frame that
is no valid packet is classified like any frame, and what the session is about to send is sent as it stands. -/
def Obligations.WireRowsRunTheEngine : Prop :=
  ∀ (s : State) (ck : Word16) (payload : Bytes),
    (∃ t, exec (.pkt ck payload) s = .next t ∧ exec (.verify (beBytes ck ++ payload)) s = .next t) ∧
    (s.sess.isOpen = true → s.sess.kind = .stream →
      (∃ t, exec (.wireS .toEngine ck payload) s = .next t ∧
        t.rx s.sess.linkId = s.rx s.sess.linkId ++ (beBytes ck ++ payload ++ [s.cfg.term]) ∧
        t.sess = s.sess ∧ t.txFifo = s.txFifo ∧ t.busLog = s.busLog ∧ SameElsewhere s t) ∧
      (s.sess.st = .sending →
        (∀ p, (s.sess.txSel = .original → p = s.sess.txPkt) → (s.sess.txSel = .resendRq → p = [0x18, 0x61, 0x45]) →
          (p = beBytes ck ++ payload → exec (.wireS .toPeer ck payload) s = .next s.internal) ∧
          (∀ addr fn args, p = beBytes ck ++ streamPayload addr fn args →
            exec (.reqS ck addr fn args) s = .next s.internal)) ∧
        (s.sess.txSel = .resendRq → exec .rqResend s = .next s.internal))) ∧
    (s.sess.isOpen = true → s.sess.kind = .bus →
      (s.sess.st = .sending → s.sess.bx = .write →
        (s.sess.txPkt = beBytes ck ++ payload → exec (.wireBReq ck payload) s = .next s.internal) ∧
        (∀ fn args, s.sess.txPkt = beBytes ck ++ busPayload fn args →
          exec (.reqB ck fn args) s = .next s.internal)) ∧
      (s.sess.st = .awaiting → s.sess.bx = .hdr → ∀ a n c, ∃ t,
        exec (.busExchange [a, n, c]) s = .next t ∧ exec (.busHdr a n c) s = .next t ∧
        exec (.busHdrNak a n c) s = .next t) ∧
      (s.sess.st = .awaiting → s.sess.bx = .body → ∃ t,
        exec (.busExchange (beBytes ck ++ payload)) s = .next t ∧ exec (.wireBBody ck payload) s = .next t)) ∧
    (s.sess.isOpen = true → s.sess.st = .classifying → ∀ h rest, payload = h :: rest →
      s.sess.acq = .frame (beBytes ck ++ payload) → crc16 payload seed0 = ck →
      (h = 0x53 → exec (.respS ck rest) s = .next s.internal) ∧
      (h = 0x46 → exec (.respF ck rest) s = .next s.internal) ∧
      (h = 0x45 → exec (.respE ck rest) s = .next s.internal) ∧
      (h ≠ 0x53 → h ≠ 0x46 → h ≠ 0x45 → exec (.respReserved ck h rest) s = .next s.internal)) ∧
    (∀ bs : Bytes,
      execIllegal .packet bs s = exec (.verify bs) s ∧
      (∀ e, decode s.cfg .response bs = .error e → verify bs = false) ∧
      (s.sess.isOpen = true → s.sess.st = .classifying → s.sess.acq = .frame bs →
        execIllegal .response bs s = .next s.internal) ∧
      (s.sess.isOpen = true → s.sess.kind = .stream →
        (∃ t, execIllegal (.streamWire .toEngine) bs s = .next t ∧
          t.rx s.sess.linkId = s.rx s.sess.linkId ++ bs ∧ t.sess = s.sess ∧ t.txFifo = s.txFifo ∧
          t.busLog = s.busLog ∧ SameElsewhere s t) ∧
        (s.sess.st = .sending →
          ∀ p, (s.sess.txSel = .original → p = s.sess.txPkt) → (s.sess.txSel = .resendRq → p = [0x18, 0x61, 0x45]) →
            (bs = p → execIllegal .streamRequest bs s = .next s.internal) ∧
            (bs = p ++ [s.cfg.term] → execIllegal (.streamWire .toPeer) bs s = .next s.internal))) ∧
      (s.sess.isOpen = true → s.sess.kind = .bus →
        (s.sess.st = .sending → s.sess.bx = .write → bs = s.sess.txPkt →
          execIllegal .busWrite bs s = .next s.internal ∧ execIllegal .busRequest bs s = .next s.internal) ∧
        (s.sess.st = .awaiting → s.sess.bx = .hdr → ∃ t,
          execIllegal .busHeader bs s = .next t ∧ exec (.busExchange bs) s = .next t) ∧
        (s.sess.st = .awaiting → s.sess.bx = .body → ∃ t,
          execIllegal .busBody bs s = .next t ∧ exec (.busExchange bs) s = .next t)))

/-- A unit or an engine operation for which the session's state has no transition stops by name and changes nothing
(10_state.md R27, log entry 12): a send outside `SENDING`, on the other kind of link, before or after the write, or of a
packet that is not the one due; an exchange unit off its step; a response that is not the frame being classified; a
recovery with no acquisition running; a packet of the peer with no open stream link. Bytes that are no legal unit stop
in the same states by the same names. -/
def Obligations.UnitsNotDueStopByName : Prop :=
  ∀ s : State,
    (s.sess.isOpen = false ∨ s.sess.kind = .bus ∨ s.sess.st ≠ .sending →
      (∀ ck p addr fn args, exec (.wireS .toPeer ck p) s = .fault .sendNotDue ∧
        exec (.reqS ck addr fn args) s = .fault .sendNotDue) ∧ exec .rqResend s = .fault .sendNotDue) ∧
    (∀ p, (s.sess.txSel = .original → p = s.sess.txPkt) → (s.sess.txSel = .resendRq → p = [0x18, 0x61, 0x45]) →
      (∀ ck payload, p ≠ beBytes ck ++ payload → exec (.wireS .toPeer ck payload) s = .fault .sendNotDue) ∧
      (∀ ck addr fn args, p ≠ beBytes ck ++ streamPayload addr fn args →
        exec (.reqS ck addr fn args) s = .fault .sendNotDue)) ∧
    (s.sess.txSel = .original → exec .rqResend s = .fault .sendNotDue) ∧
    (s.sess.isOpen = false ∨ s.sess.kind = .stream ∨ s.sess.st ≠ .sending ∨ s.sess.bx ≠ .write →
      ∀ ck p fn args, exec (.wireBReq ck p) s = .fault .sendNotDue ∧ exec (.reqB ck fn args) s = .fault .sendNotDue) ∧
    (∀ ck payload, s.sess.txPkt ≠ beBytes ck ++ payload → exec (.wireBReq ck payload) s = .fault .sendNotDue) ∧
    (∀ ck fn args, s.sess.txPkt ≠ beBytes ck ++ busPayload fn args →
      exec (.reqB ck fn args) s = .fault .sendNotDue) ∧
    (s.sess.isOpen = false ∨ s.sess.kind = .stream ∨ s.sess.st ≠ .awaiting ∨ s.sess.bx ≠ .hdr →
      (∀ a n c, exec (.busHdr a n c) s = .fault .noExchange ∧ exec (.busHdrNak a n c) s = .fault .noExchange) ∧
      exec .hdrCheck s = .fault .noExchange) ∧
    (s.sess.isOpen = false ∨ s.sess.kind = .stream ∨ s.sess.st ≠ .awaiting ∨ s.sess.bx ≠ .body →
      ∀ ck p, exec (.wireBBody ck p) s = .fault .noExchange) ∧
    (s.sess.isOpen = false ∨ s.sess.kind = .stream ∨ (s.sess.st ≠ .sending ∧ s.sess.st ≠ .awaiting) ∨
        (s.sess.st = .sending ∧ s.sess.bx ≠ .idle ∧ s.sess.bx ≠ .write) ∨
        (s.sess.st = .awaiting ∧ s.sess.bx ≠ .hdr ∧ s.sess.bx ≠ .body) →
      ∀ r, exec (.busExchange r) s = .fault .noExchange) ∧
    (s.sess.isOpen = false ∨ s.sess.st ≠ .classifying →
      (∀ ck b r, exec (.respS ck r) s = .fault .notClassifying ∧ exec (.respF ck r) s = .fault .notClassifying ∧
        exec (.respE ck r) s = .fault .notClassifying ∧ exec (.respReserved ck b r) s = .fault .notClassifying) ∧
      exec .classify s = .fault .notClassifying) ∧
    (∀ ck b r, s.sess.acq ≠ .frame (beBytes ck ++ b :: r) ∨ crc16 (b :: r) seed0 ≠ ck →
      (b = 0x53 → exec (.respS ck r) s = .fault .notClassifying) ∧
      (b = 0x46 → exec (.respF ck r) s = .fault .notClassifying) ∧
      (b = 0x45 → exec (.respE ck r) s = .fault .notClassifying) ∧
      exec (.respReserved ck b r) s = .fault .notClassifying) ∧
    (s.sess.isOpen = false ∨ s.sess.kind = .bus ∨ s.sess.fs = .idle ∨ s.sess.fs = .settle →
      exec .flushRecover s = .fault .notAcquiring) ∧
    (s.sess.isOpen = false ∨ s.sess.kind = .bus →
      ∀ ck p, exec (.wireS .toEngine ck p) s = .fault .noStreamLink) ∧
    (∀ bs : Bytes,
      (s.sess.isOpen = false ∨ s.sess.kind = .bus ∨ s.sess.st ≠ .sending →
        execIllegal .streamRequest bs s = .fault .sendNotDue ∧
        execIllegal (.streamWire .toPeer) bs s = .fault .sendNotDue) ∧
      (∀ p, (s.sess.txSel = .original → p = s.sess.txPkt) → (s.sess.txSel = .resendRq → p = [0x18, 0x61, 0x45]) →
        (bs ≠ p → execIllegal .streamRequest bs s = .fault .sendNotDue) ∧
        (bs ≠ p ++ [s.cfg.term] → execIllegal (.streamWire .toPeer) bs s = .fault .sendNotDue)) ∧
      (s.sess.isOpen = false ∨ s.sess.kind = .stream ∨ s.sess.st ≠ .sending ∨ s.sess.bx ≠ .write ∨ bs ≠ s.sess.txPkt →
        execIllegal .busWrite bs s = .fault .sendNotDue ∧ execIllegal .busRequest bs s = .fault .sendNotDue) ∧
      (s.sess.isOpen = false ∨ s.sess.kind = .stream ∨ s.sess.st ≠ .awaiting ∨ s.sess.bx ≠ .hdr →
        execIllegal .busHeader bs s = .fault .noExchange) ∧
      (s.sess.isOpen = false ∨ s.sess.kind = .stream ∨ s.sess.st ≠ .awaiting ∨ s.sess.bx ≠ .body →
        execIllegal .busBody bs s = .fault .noExchange) ∧
      (s.sess.isOpen = false ∨ s.sess.st ≠ .classifying ∨ s.sess.acq ≠ .frame bs →
        execIllegal .response bs s = .fault .notClassifying) ∧
      (s.sess.isOpen = false ∨ s.sess.kind = .bus →
        execIllegal (.streamWire .toEngine) bs s = .fault .noStreamLink))

/-! ### Retry engine -/

/-- The end of an acquisition (43_retry_engine.md R235) and the retry (R245). -/
def Obligations.AttemptEndsAndRetryStarts : Prop :=
  ∀ s : State, s.sess.isOpen = true →
    (s.sess.st = .awaiting →
      (s.sess.kind = .stream ∧ s.sess.fs = .idle) ∨ (s.sess.kind = .bus ∧ s.sess.bx = .idle) →
      s.internal = s.setSess { s.sess with attempts := s.sess.attempts + 1, st := .classifying }) ∧
    (s.sess.st = .awaiting →
      (s.sess.kind = .stream ∧ s.sess.fs ≠ .idle) ∨ (s.sess.kind = .bus ∧ s.sess.bx ≠ .idle) →
      s.internal = s) ∧
    (s.sess.st = .retry → s.internal = s.setSess { s.sess with st := .sending })

/-- The end of a call (R247): the lock is freed, the result handed to the host, raised if it is an error, and `st` goes
to `IDLE`. An error ends the call inside the step that leaves `CLASSIFYING` (60_exceptions.md R336): that step ends in
`RETRY` or `SUCCESS`, or in `IDLE` with the cause in `result`, its record in `trace`, the lock free and the error raised.
That every other register keeps its value at the end of a call is R247's for `result`, `trace`, the counters and
`tx_pkt`, and the model's reading for the rest, log entry 32; that the transitions of R27 are both in that one step is
log entry 34. -/
def Obligations.EndOfCallFreesLockAndHandsResult : Prop :=
  ∀ s : State, s.sess.isOpen = true →
    (s.sess.st = .success ∨ s.sess.st = .fatal →
      ∃ r : Reply,
        s.internal = ((s.freeLock s.sess.linkId).setReply r).setSess { s.sess with st := .idle } ∧
        (∀ v, s.sess.result = .value v → r = .returned v) ∧
        (∀ tag a d, s.sess.result = .err tag a d → r = .raised tag a d) ∧
        s.internal.lockOf s.sess.linkId = none ∧
        (∀ l, l ≠ s.sess.linkId → s.internal.lockOf l = s.lockOf l)) ∧
    (s.sess.st = .classifying →
      ((s.internal.sess.st = .retry ∨ s.internal.sess.st = .success) ∧ s.internal.locks = s.locks ∧
        s.internal.reply = s.reply) ∨
      (s.internal.sess.st = .idle ∧ s.internal.lockOf s.sess.linkId = none ∧
        (∀ l, l ≠ s.sess.linkId → s.internal.lockOf l = s.lockOf l) ∧
        ∃ tag d cls, s.internal.sess.result = .err tag s.sess.addr d ∧
          s.internal.sess.trace = s.sess.trace ++ [⟨s.sess.attempts, cls, .none⟩] ∧
          s.internal.reply = .raised tag s.sess.addr d))

/-- Class 1 (R237): no frame. With the budget used up the call ends in the same step (60_exceptions.md R336), here and in
the other classes; that `rx_buf`, `hdr`, `acq` and the flags then stay is the model's reading, log entry 32. -/
def Obligations.ClassOneNoFrame : Prop :=
  ∀ s : State, s.sess.isOpen = true → s.sess.st = .classifying → s.sess.acq = .noFrame →
    ∃ (se : Session) (a : TraceAction),
      (s.sess.attempts.toNat < s.cfg.maxRetries →
        s.internal = s.setSess se ∧
        exec .classify s = .next ((s.setSess se).setReply (.classified .c1NoFrame .retry a)) ∧
        a = .resendOriginal ∧
        se = { s.sess with
          readCrcErrors := min (s.sess.readCrcErrors + 1) (2 ^ s.cfg.cntW - 1)
          nNoframe := s.sess.nNoframe + 1
          txSel := .original
          trace := s.sess.trace ++ [⟨s.sess.attempts, .c1NoFrame, .resendOriginal⟩]
          st := .retry }) ∧
      (s.cfg.maxRetries ≤ s.sess.attempts.toNat → ∃ d : Bytes,
        d = asciiBytes "max retries: no response".toList ∧
        s.internal = ((s.freeLock s.sess.linkId).setReply (.raised .noResponse s.sess.addr d)).setSess se ∧
        exec .classify s = .next (s.internal.setReply (.classifiedRaised .c1NoFrame .none .noResponse s.sess.addr d)) ∧
        se = { s.sess with
          readCrcErrors := min (s.sess.readCrcErrors + 1) (2 ^ s.cfg.cntW - 1)
          nNoframe := s.sess.nNoframe + 1
          trace := s.sess.trace ++ [⟨s.sess.attempts, .c1NoFrame, .none⟩]
          result := .err .noResponse s.sess.addr d
          st := .idle })

/-- Class 2 (R238): a frame that fails `VERIFY`. What `crc` holds after the check is the model's reading, log entry 10,
here and in classes 3 to 6. -/
def Obligations.ClassTwoCorruptFrame : Prop :=
  ∀ (s : State) (p : Bytes), s.sess.isOpen = true → s.sess.st = .classifying → s.sess.acq = .frame p →
    verify p = false →
    ∃ (se : Session) (a : TraceAction),
      (s.sess.attempts.toNat < s.cfg.maxRetries →
        s.internal = (s.runVerify p).setSess se ∧
        exec .classify s = .next (((s.runVerify p).setSess se).setReply (.classified .c2Corrupt .retry a)) ∧
        (s.sess.kind = .stream → a = .sendRqResend) ∧ (s.sess.kind = .bus → a = .redoExchange) ∧
        se = { s.sess with
          ckOk := false
          readCrcErrors := min (s.sess.readCrcErrors + 1) (2 ^ s.cfg.cntW - 1)
          nCorrupt := s.sess.nCorrupt + 1
          txSel := if s.sess.kind = .stream then .resendRq else .original
          trace := s.sess.trace ++ [⟨s.sess.attempts, .c2Corrupt, a⟩]
          st := .retry }) ∧
      (s.cfg.maxRetries ≤ s.sess.attempts.toNat → ∃ d : Bytes,
        d = asciiBytes "max retries: corrupt response".toList ∧
        s.internal = (((s.runVerify p).freeLock s.sess.linkId).setReply (.raised .corruptResponse s.sess.addr d)).setSess se ∧
        exec .classify s = .next (s.internal.setReply (.classifiedRaised .c2Corrupt .none .corruptResponse s.sess.addr d)) ∧
        se = { s.sess with
          ckOk := false
          readCrcErrors := min (s.sess.readCrcErrors + 1) (2 ^ s.cfg.cntW - 1)
          nCorrupt := s.sess.nCorrupt + 1
          trace := s.sess.trace ++ [⟨s.sess.attempts, .c2Corrupt, .none⟩]
          result := .err .corruptResponse s.sess.addr d
          st := .idle })

/-- Class 3 (R239): a valid frame whose status is `'E'` (`crc`: log entry 10). -/
def Obligations.ClassThreeNegativeAcknowledgement : Prop :=
  ∀ (s : State) (ck : Word16) (rest : Bytes), s.sess.isOpen = true → s.sess.st = .classifying →
    s.sess.acq = .frame (beBytes ck ++ 0x45 :: rest) → crc16 (0x45 :: rest) seed0 = ck →
    ∃ (se : Session) (a : TraceAction),
      (s.sess.attempts.toNat < s.cfg.maxRetries →
        s.internal = (s.setCrc ck).setSess se ∧
        exec .classify s = .next (((s.setCrc ck).setSess se).setReply (.classified .c3Nak .retry a)) ∧
        a = .resendOriginal ∧
        se = { s.sess with
          ckOk := true
          writeCrcErrors := min (s.sess.writeCrcErrors + 1) (2 ^ s.cfg.cntW - 1)
          nNak := s.sess.nNak + 1
          txSel := .original
          trace := s.sess.trace ++ [⟨s.sess.attempts, .c3Nak, .resendOriginal⟩]
          st := .retry }) ∧
      (s.cfg.maxRetries ≤ s.sess.attempts.toNat → ∃ d : Bytes,
        d = asciiBytes "max retries: peer reported corrupt request".toList ∧
        s.internal = (((s.setCrc ck).freeLock s.sess.linkId).setReply (.raised .peerReportedCorruptRequest s.sess.addr d)).setSess se ∧
        exec .classify s = .next (s.internal.setReply (.classifiedRaised .c3Nak .none .peerReportedCorruptRequest s.sess.addr d)) ∧
        se = { s.sess with
          ckOk := true
          writeCrcErrors := min (s.sess.writeCrcErrors + 1) (2 ^ s.cfg.cntW - 1)
          nNak := s.sess.nNak + 1
          trace := s.sess.trace ++ [⟨s.sess.attempts, .c3Nak, .none⟩]
          result := .err .peerReportedCorruptRequest s.sess.addr d
          st := .idle })

/-- Class 4 (R240): a valid frame whose status is `'S'` (`crc`: log entry 10). -/
def Obligations.ClassFourSuccess : Prop :=
  ∀ (s : State) (ck : Word16) (rest : Bytes), s.sess.isOpen = true → s.sess.st = .classifying →
    s.sess.acq = .frame (beBytes ck ++ 0x53 :: rest) → crc16 (0x53 :: rest) seed0 = ck →
    ∃ se : Session, s.internal = (s.setCrc ck).setSess se ∧
      exec .classify s = .next (((s.setCrc ck).setSess se).setReply (.classified .c4Success .success .none)) ∧
      se = { s.sess with
        ckOk := true
        result := .value (parseS (0x53 :: rest))
        trace := s.sess.trace ++ [⟨s.sess.attempts, .c4Success, .none⟩]
        st := .success }

/-- Class 5 (R241): a valid frame whose status is `'F'`, whatever budget remains (`crc`: log entry 10). -/
def Obligations.ClassFiveRemoteCallFault : Prop :=
  ∀ (s : State) (ck : Word16) (rest : Bytes), s.sess.isOpen = true → s.sess.st = .classifying →
    s.sess.acq = .frame (beBytes ck ++ 0x46 :: rest) → crc16 (0x46 :: rest) seed0 = ck →
    ∃ (se : Session) (d : Bytes),
      d = (0x46 :: rest).drop 2 ∧
      s.internal = (((s.setCrc ck).freeLock s.sess.linkId).setReply (.raised .remoteCallFault s.sess.addr d)).setSess se ∧
      exec .classify s = .next (s.internal.setReply (.classifiedRaised .c5RemoteFail .none .remoteCallFault s.sess.addr d)) ∧
      se = { s.sess with
        ckOk := true
        result := .err .remoteCallFault s.sess.addr d
        trace := s.sess.trace ++ [⟨s.sess.attempts, .c5RemoteFail, .none⟩]
        st := .idle }

/-- Class 6 (R242): a valid frame with any other status, whatever budget remains (`crc`: log entry 10). -/
def Obligations.ClassSixUnrecognizedHeader : Prop :=
  ∀ (s : State) (ck : Word16) (b : Byte) (rest : Bytes), s.sess.isOpen = true → s.sess.st = .classifying →
    s.sess.acq = .frame (beBytes ck ++ b :: rest) → crc16 (b :: rest) seed0 = ck →
    b ≠ 0x45 → b ≠ 0x53 → b ≠ 0x46 →
    ∃ (se : Session) (d : Bytes),
      d = asciiBytes "unrecognized response header".toList ∧
      s.internal = (((s.setCrc ck).freeLock s.sess.linkId).setReply (.raised .unrecognizedHeader s.sess.addr d)).setSess se ∧
      exec .classify s = .next (s.internal.setReply (.classifiedRaised .c6BadHeader .none .unrecognizedHeader s.sess.addr d)) ∧
      se = { s.sess with
        ckOk := true
        result := .err .unrecognizedHeader s.sess.addr d
        trace := s.sess.trace ++ [⟨s.sess.attempts, .c6BadHeader, .none⟩]
        st := .idle }

/-- Bus header checksum failure (R243). -/
def Obligations.HeaderChecksumFailureIsClassTwo : Prop :=
  ∀ s : State, s.sess.isOpen = true → s.sess.st = .classifying → s.sess.acq = .hdrBad →
    ∃ (se : Session) (a : TraceAction),
      (s.sess.attempts.toNat < s.cfg.maxRetries →
        s.internal = s.setSess se ∧
        exec .classify s = .next ((s.setSess se).setReply (.classified .c2Corrupt .retry a)) ∧
        (s.cfg.busHdrPolicy = .readOnly → a = .rereadHeader) ∧
        (s.cfg.busHdrPolicy = .rewrite → a = .redoExchange) ∧
        se = { s.sess with
          readCrcErrors := min (s.sess.readCrcErrors + 1) (2 ^ s.cfg.cntW - 1)
          nCorrupt := s.sess.nCorrupt + 1
          nHdr := s.sess.nHdr + 1
          skipWrite := s.sess.skipWrite || decide (s.cfg.busHdrPolicy = .readOnly)
          trace := s.sess.trace ++ [⟨s.sess.attempts, .c2Corrupt, a⟩]
          st := .retry }) ∧
      (s.cfg.maxRetries ≤ s.sess.attempts.toNat → ∃ d : Bytes,
        d = asciiBytes "max retries: corrupt response".toList ∧
        s.internal = ((s.freeLock s.sess.linkId).setReply (.raised .corruptResponse s.sess.addr d)).setSess se ∧
        exec .classify s = .next (s.internal.setReply (.classifiedRaised .c2Corrupt .none .corruptResponse s.sess.addr d)) ∧
        se = { s.sess with
          readCrcErrors := min (s.sess.readCrcErrors + 1) (2 ^ s.cfg.cntW - 1)
          nCorrupt := s.sess.nCorrupt + 1
          nHdr := s.sess.nHdr + 1
          trace := s.sess.trace ++ [⟨s.sess.attempts, .c2Corrupt, .none⟩]
          result := .err .corruptResponse s.sess.addr d
          st := .idle })

/-- Bus header negative acknowledgement (R244). -/
def Obligations.HeaderNakIsClassThree : Prop :=
  ∀ s : State, s.sess.isOpen = true → s.sess.st = .classifying → s.sess.acq = .hdrNak →
    ∃ (se : Session) (a : TraceAction),
      (s.sess.attempts.toNat < s.cfg.maxRetries →
        s.internal = s.setSess se ∧
        exec .classify s = .next ((s.setSess se).setReply (.classified .c3Nak .retry a)) ∧
        (s.cfg.busHdrPolicy = .readOnly → a = .rereadHeader) ∧
        (s.cfg.busHdrPolicy = .rewrite → a = .redoExchange) ∧
        se = { s.sess with
          writeCrcErrors := min (s.sess.writeCrcErrors + 1) (2 ^ s.cfg.cntW - 1)
          nNak := s.sess.nNak + 1
          nHdr := s.sess.nHdr + 1
          skipWrite := s.sess.skipWrite || decide (s.cfg.busHdrPolicy = .readOnly)
          trace := s.sess.trace ++ [⟨s.sess.attempts, .c3Nak, a⟩]
          st := .retry }) ∧
      (s.cfg.maxRetries ≤ s.sess.attempts.toNat → ∃ d : Bytes,
        d = asciiBytes "max retries: peer reported corrupt request".toList ∧
        s.internal = ((s.freeLock s.sess.linkId).setReply (.raised .peerReportedCorruptRequest s.sess.addr d)).setSess se ∧
        exec .classify s = .next (s.internal.setReply (.classifiedRaised .c3Nak .none .peerReportedCorruptRequest s.sess.addr d)) ∧
        se = { s.sess with
          writeCrcErrors := min (s.sess.writeCrcErrors + 1) (2 ^ s.cfg.cntW - 1)
          nNak := s.sess.nNak + 1
          nHdr := s.sess.nHdr + 1
          trace := s.sess.trace ++ [⟨s.sess.attempts, .c3Nak, .none⟩]
          result := .err .peerReportedCorruptRequest s.sess.addr d
          st := .idle })

/-! ### Host operations -/

/-- `CALL` on an open, idle session whose link is free (43_retry_engine.md R231): the request is encoded once, the lock
taken, the per-call registers cleared; the lifetime counters are not touched. On an encoding error none of it happens.
That `crc` then holds the payload's checksum is the model's reading, log entry 10. -/
def Obligations.CallStartsWithCleanCounters : Prop :=
  ∀ (s : State) (fn : Word16) (args : List Value),
    s.sess.isOpen = true → s.sess.st = .idle → s.sess.waiting = none → s.lockOf s.sess.linkId = none →
    (args.any nonAsciiArg = false → ∃ payload : Bytes,
      payload = requestPayload (if s.sess.kind = .stream then some s.sess.addr else none) fn
        (args.map fun v => asciiBytes (fmtArg v)) ∧
      exec (.call fn args) s
        = .next (((s.setCrc (crc16 payload seed0)).takeLock s.sess.linkId).setSess
            { s.sess with
              txPkt := beBytes (crc16 payload seed0) ++ payload
              txSel := .original
              skipWrite := false
              attempts := 0
              nNoframe := 0
              nCorrupt := 0
              nNak := 0
              nHdr := 0
              trace := []
              result := .pending
              st := .sending })) ∧
    (args.any nonAsciiArg = true → ∃ t, exec (.call fn args) s = .next t ∧ t.locks = s.locks ∧
      ∀ sid, t.session sid = s.session sid)

/-- `CALL` with an argument that cannot be rendered (60_exceptions.md R337): the call ends with `ENCODE_ERROR` and the
session's address, and no register changes. The detail string is a free value (log entry 8): the statement says
nothing of it, and `free` is the model's own counter. -/
def Obligations.UnencodableCallChangesNoRegister : Prop :=
  ∀ (s : State) (fn : Word16) (args : List Value),
    s.sess.isOpen = true → s.sess.st = .idle → s.sess.waiting = none → s.lockOf s.sess.linkId = none →
    args.any nonAsciiArg = true →
    ∃ (t : State) (d : Bytes), exec (.call fn args) s = .next t ∧
      t.reply = .raised .encodeError s.sess.addr d ∧ (∀ sid, t.session sid = s.session sid) ∧
      t.cfg = s.cfg ∧ t.crc = s.crc ∧ t.registry = s.registry ∧ t.locks = s.locks ∧ t.rxFifo = s.rxFifo ∧
      t.txFifo = s.txFifo ∧ t.sent = s.sent ∧ t.busLog = s.busLog ∧ t.cur = s.cur ∧ t.agenda = s.agenda

/-- When a `CALL` does not start (45_host_ops.md R303): refused on a closed session and while a call of the session is in
flight; waiting while another session holds the lock. Once the lock is free the waiting call's next step is the whole
start of 43_retry_engine.md R231, or, with an argument that cannot be rendered, the end with `ENCODE_ERROR` of
60_exceptions.md R337 (its detail is a free value, log entry 8), after which nothing waits. That a waiting session
counts as busy, and where the operands wait, is the model's, log entries 15 and 16; what `crc` holds is log entry 10. -/
def Obligations.CallIsRefusedOrWaits : Prop :=
  ∀ (s : State) (fn : Word16) (args : List Value),
    (s.sess.isOpen = false → exec (.call fn args) s = .refused .sessionClosed) ∧
    (s.sess.isOpen = true → s.sess.st ≠ .idle ∨ s.sess.waiting ≠ none →
      exec (.call fn args) s = .refused .sessionBusy) ∧
    (s.sess.isOpen = true → s.sess.st = .idle → s.sess.waiting = none → s.lockOf s.sess.linkId ≠ none →
      exec (.call fn args) s = .next (s.setSess { s.sess with waiting := some (fn, args) })) ∧
    (s.sess.isOpen = true → s.sess.st = .idle → s.sess.waiting = some (fn, args) →
      (s.lockOf s.sess.linkId ≠ none → s.internal = s) ∧
      (s.lockOf s.sess.linkId = none → args.any nonAsciiArg = false → ∃ payload : Bytes,
        payload = requestPayload (if s.sess.kind = .stream then some s.sess.addr else none) fn
          (args.map fun v => asciiBytes (fmtArg v)) ∧
        s.internal = ((s.setCrc (crc16 payload seed0)).takeLock s.sess.linkId).setSess
          { s.sess with
            txPkt := beBytes (crc16 payload seed0) ++ payload
            txSel := .original
            skipWrite := false
            attempts := 0
            nNoframe := 0
            nCorrupt := 0
            nNak := 0
            nHdr := 0
            trace := []
            result := .pending
            st := .sending
            waiting := none }) ∧
      (s.lockOf s.sess.linkId = none → args.any nonAsciiArg = true → ∃ d : Bytes,
        s.internal = ((s.setReply (.raised .encodeError s.sess.addr d)).bumpFree).setSess
          { s.sess with waiting := none }))

/-- `OPEN` (45_host_ops.md R301): on a closed session with a legal address, a link not in the registry is entered with
one user and a free lock, a link open with the same kind gets one user more, and the session starts from zero, its
registers at the values of 10_state.md R41 but for those `OPEN` sets; an error, and nothing changed, for an address above
`0x7F` or a link open with the other kind; no step on an open session. The model's: that the registers R301 does not
name start from zero too (log entry 26, from R305 and 93_implementation_defined.md U22), that the queues of a freshly
opened handle are what they were (log entry 33), that "no step" is a refusal by name (log entry 13). -/
def Obligations.OpenEntersTheLinkOrFails : Prop :=
  ∀ (s : State) (kind : Kind) (addr : Byte) (link : LinkId),
    (s.sess.isOpen = false → addr.toNat ≤ 0x7F →
      ∃ se : Session,
        se = { Session.reset with kind := kind, addr := addr, linkId := link, isOpen := true } ∧
        (s.regEntry link = none → exec (.openSession kind addr link) s
          = .next ((((s.setReg link ⟨kind, 1⟩).freeLock link).setSess se).setReply .done)) ∧
        (∀ users, s.regEntry link = some ⟨kind, users⟩ → exec (.openSession kind addr link) s
          = .next (((s.setReg link ⟨kind, users + 1⟩).setSess se).setReply .done))) ∧
    (s.sess.isOpen = true → exec (.openSession kind addr link) s = .refused .sessionAlreadyOpen) ∧
    (s.sess.isOpen = false → 0x7F < addr.toNat →
      exec (.openSession kind addr link) s = .next (s.setReply (.openError .badAddress addr))) ∧
    (s.sess.isOpen = false → addr.toNat ≤ 0x7F → ∀ e, s.regEntry link = some e → e.kind ≠ kind →
      exec (.openSession kind addr link) s = .next (s.setReply (.openError .kindMismatch addr)))


/-- `CLOSE` (R305): one user less, the entry gone with the last, the session closed and what it held gone: counters,
`result`, `trace` and every other register at their reset values but for `kind`, `addr` and `link_id`; refused on a closed
or busy session. The model's: that the registers R305 does not list go too (log entry 26), that the link's queues keep
what they hold (log entry 33), that the refusal has a name (log entry 13), that a waiting session is busy (log
entry 16). -/
def Obligations.CloseLeavesTheLink : Prop :=
  ∀ s : State,
    (s.sess.isOpen = true → s.sess.st = .idle → s.sess.waiting = none →
      ∀ e, s.regEntry s.sess.linkId = some e →
        (e.users = 1 → exec .closeSession s
          = .next (((s.dropReg s.sess.linkId).setSess { Session.reset with
              kind := s.sess.kind, addr := s.sess.addr, linkId := s.sess.linkId }).setReply .done)) ∧
        (1 < e.users → exec .closeSession s
          = .next (((s.setReg s.sess.linkId ⟨e.kind, e.users - 1⟩).setSess { Session.reset with
              kind := s.sess.kind, addr := s.sess.addr, linkId := s.sess.linkId }).setReply .done))) ∧
    (s.sess.isOpen = false → exec .closeSession s = .refused .sessionClosed) ∧
    (s.sess.isOpen = true → s.sess.st ≠ .idle ∨ s.sess.waiting ≠ none →
      exec .closeSession s = .refused .sessionBusy)

/-- `RD_CNT`, `RD_TRACE`, `RD_DIAG` (R304, R306) give the session's registers and write none; they are refused on a
closed session and during a call (R300; for `RD_TRACE` and `RD_DIAG` the model's reading, log entry 16). -/
def Obligations.ReadsReturnRegistersAndWriteNone : Prop :=
  ∀ s : State,
    (s.sess.isOpen = true → s.sess.st = .idle → s.sess.waiting = none →
      exec (.rdCnt .readCrcErrors) s = .next (s.setReply (.count s.sess.readCrcErrors)) ∧
      exec (.rdCnt .writeCrcErrors) s = .next (s.setReply (.count s.sess.writeCrcErrors)) ∧
      exec .rdTrace s = .next (s.setReply (.trace s.sess.trace)) ∧
      exec .rdDiag s = .next (s.setReply
        (.diag s.sess.attempts s.sess.nNoframe s.sess.nCorrupt s.sess.nNak s.sess.nHdr))) ∧
    (∀ i, (∃ w, i = .rdCnt w) ∨ i = .rdTrace ∨ i = .rdDiag →
      (s.sess.isOpen = false → exec i s = .refused .sessionClosed) ∧
      (s.sess.isOpen = true → s.sess.st ≠ .idle ∨ s.sess.waiting ≠ none → exec i s = .refused .sessionBusy))

/-- `RESET` (70_reset_and_hazards.md R380, 10_state.md R41), in any state: every register at its reset value, the
registry empty, every lock free. Of `kind`, `addr` and `link_id`, which have no reset value, and of the
environment's queues, which are unspecified afterwards, the statement says nothing. -/
def Obligations.ResetRestoresEveryRegister : Prop :=
  ∀ s : State, ∃ t, exec .reset s = .next t ∧ t.cfg = s.cfg ∧ t.crc = 0x0000 ∧
    (∀ l, t.regEntry l = none ∧ t.lockOf l = none) ∧
    (∀ sid, ∃ k a l, t.session sid =
      { kind := k, addr := a, linkId := l, isOpen := false, readCrcErrors := 0, writeCrcErrors := 0,
        txPkt := [], rxBuf := [], hdr := ⟨0x00, 0x00, 0x00⟩, acq := .noFrame, result := .pending,
        st := .idle, fs := .idle, bx := .idle, termSeen := false, ckOk := false, hdrCkOk := false,
        hdrNak := false, skipWrite := false, attempts := 0, nNoframe := 0, nCorrupt := 0, nNak := 0,
        nHdr := 0, txSel := .original, trace := [], waiting := none }) ∧
    t.sent = s.sent ∧ t.busLog = s.busLog ∧ t.cur = s.cur ∧ t.agenda = s.agenda

/-! ### Invariants and whole-machine rules -/

/-- Every step keeps every keyed store in canonical form: sessions, registry, locks and queues (log entry 28). -/
def Obligations.StepKeepsStoresCanonical : Prop :=
  ∀ s t : State, Memory.wf s = true → step s = .next t → Memory.wf t = true

/-- Every step keeps the invariant of every session (`Session.Inv`: each clause cites its rule). -/
def Obligations.StepKeepsSessionInvariants : Prop :=
  ∀ s t : State, SessionsInv s → step s = .next t → SessionsInv t

/-- Every step keeps the registry's count of users and its kinds (`RegistryInv`; 45_host_ops.md R301, R305). -/
def Obligations.StepKeepsRegistryCount : Prop :=
  ∀ s t : State, RegistryInv s → step s = .next t → RegistryInv t

/-- Every step keeps the locks' discipline: a lock is held by a session exactly while a call of that session is in
progress on its link, so that calls of two sessions on one link never overlap (`LocksInv`; 20_memory.md R72). -/
def Obligations.StepKeepsLockDiscipline : Prop :=
  ∀ s t : State, LocksInv s → step s = .next t → LocksInv t

/-- The state after reset meets the invariants. -/
def Obligations.ResetStateMeetsInvariants : Prop :=
  Memory.wf State.reset = true ∧ SessionsInv State.reset ∧ RegistryInv State.reset ∧ LocksInv State.reset

/-- The transitions of `st`, `fs` and `bx` are those of 10_state.md R27 and of 42_frame_acquirer.md, in every session
and at every step but `RESET`; a raised error takes `st` from `CLASSIFYING` through `FATAL` to `IDLE` in one step
(60_exceptions.md R336, log entry 34). -/
def Obligations.MachinesMoveAlongTheirTransitions : Prop :=
  ∀ s t : State, SessionsInv s → ¬ s.resets → step s = .next t → ∀ sid,
    ((t.session sid).st = (s.session sid).st ∨ (t.session sid).st ∈ RetryState.next (s.session sid).st ∨
      ((s.session sid).st = .classifying ∧ (t.session sid).st = .idle ∧
        ∃ tag d, (t.session sid).result = .err tag (t.session sid).addr d)) ∧
    ((t.session sid).fs = (s.session sid).fs ∨ (t.session sid).fs ∈ SyncState.next (s.session sid).fs) ∧
    ((t.session sid).bx = (s.session sid).bx ∨ (t.session sid).bx ∈ BusState.next (s.session sid).bx)

/-- A step leaves the configuration alone (10_state.md R37), and, unless it is `RESET`, the registers of every session
but the one it is for (60_exceptions.md R355). -/
def Obligations.StepLeavesOtherSessionsAlone : Prop :=
  ∀ s t : State, step s = .next t →
    t.cfg = s.cfg ∧ (¬ s.resets → ∀ sid, sid ≠ t.cur → t.session sid = s.session sid)

/-- The session registers are constant while the session is open (10_state.md R36), and `tx_pkt` while a call is in
progress (R22, 20_memory.md R76). -/
def Obligations.SessionAndRequestRegistersAreConstant : Prop :=
  ∀ s t : State, step s = .next t → ∀ sid,
    ((s.session sid).isOpen = true → (t.session sid).isOpen = true →
      (t.session sid).kind = (s.session sid).kind ∧ (t.session sid).addr = (s.session sid).addr ∧
      (t.session sid).linkId = (s.session sid).linkId) ∧
    ((s.session sid).st ≠ .idle → (t.session sid).st ≠ .idle →
      (t.session sid).txPkt = (s.session sid).txPkt)

/-- A call on a stream that stays silent (43_retry_engine.md R248 (h), R232): after `n` attempts the machine is in
`RETRY` while `n` is below `MAX_RETRIES`, and at `MAX_RETRIES` the call has ended in `NO_RESPONSE` (60_exceptions.md
R336); every attempt is recorded as class 1 and counted, saturation aside. -/
def Obligations.SilentStreamEndsAfterMaxRetries : Prop :=
  ∀ (s : State) (n : Nat), s.cfg.legal = true → 1 ≤ n → n ≤ s.cfg.maxRetries →
    s.sess.isOpen = true → s.sess.kind = .stream → s.sess.st = .sending → s.sess.attempts = 0 →
    s.sess.trace = [] →
    (s.silentAttempts n).sess.attempts.toNat = n ∧ (s.silentAttempts n).sess.trace.length = n ∧
    (∀ r ∈ (s.silentAttempts n).sess.trace, r.cls = .c1NoFrame) ∧
    (s.silentAttempts n).sess.readCrcErrors = min (s.sess.readCrcErrors + n) (2 ^ s.cfg.cntW - 1) ∧
    (s.silentAttempts n).sess.writeCrcErrors = s.sess.writeCrcErrors ∧
    (n < s.cfg.maxRetries → (s.silentAttempts n).sess.st = .retry) ∧
    (n = s.cfg.maxRetries → (s.silentAttempts n).sess.st = .idle ∧
      (s.silentAttempts n).lockOf s.sess.linkId = none ∧
      (s.silentAttempts n).sess.result
        = .err .noResponse s.sess.addr (asciiBytes "max retries: no response".toList) ∧
      (s.silentAttempts n).reply
        = .raised .noResponse s.sess.addr (asciiBytes "max retries: no response".toList))

/-- The start of an exchange (42_frame_acquirer.md R201), as `BUS_EXCHANGE` and as the internal transition of a session
that is `SENDING` with the exchange idle (43_retry_engine.md R234): the buffer is emptied and the header's flags
cleared; after `skip_write`, which is cleared, the exchange goes to the header read and `st` to `AWAITING` without any
transaction, otherwise the exchange goes to its write. Every other register stays. That the start is a step of its own, and
that `st` becomes `AWAITING` in it after `skip_write`, is the model's reading, log entry 21. -/
def Obligations.BusExchangeStarts : Prop :=
  ∀ (s : State) (r : Bytes),
    s.sess.isOpen = true → s.sess.kind = .bus → s.sess.st = .sending → s.sess.bx = .idle →
    ∃ se : Session, exec (.busExchange r) s = .next (s.setSess se) ∧ s.internal = s.setSess se ∧
      (s.sess.skipWrite = true → se = { s.sess with
        rxBuf := [], hdrCkOk := false, hdrNak := false, skipWrite := false, bx := .hdr, st := .awaiting }) ∧
      (s.sess.skipWrite = false → se = { s.sess with
        rxBuf := [], hdrCkOk := false, hdrNak := false, bx := .write })
end

