-- ==== Sys2Proof/Laws/Assoc.lean ====
section
/-!
SUPPORT. The laws of sparse data: a read after a write, other keys left alone, and the canonical form kept by
every operation.
-/

namespace Sys2Proof.Machine.Assoc

variable {β : Type}

@[simp] theorem get?_insert_same (k : Nat) (v : β) (l : List (Nat × β)) : get? k (insert k v l) = some v := by
  induction l with
  | nil => simp [insert, get?]
  | cons e l ih =>
    obtain ⟨k', v'⟩ := e
    rw [insert]
    split
    · simp [get?]
    · split
      · simp [get?]
      · rename_i h
        simp [get?, h, ih]

theorem get?_insert_other {k j : Nat} (h : j ≠ k) (v : β) (l : List (Nat × β)) :
    get? j (insert k v l) = get? j l := by
  induction l with
  | nil => simp [insert, get?, h]
  | cons e l ih =>
    obtain ⟨k', v'⟩ := e
    rw [insert]
    split
    · simp [get?, h]
    · split
      · rename_i hk
        subst hk
        simp [get?, h]
      · simp [get?, ih]

@[simp] theorem get?_erase_same (k : Nat) (l : List (Nat × β)) : get? k (erase k l) = none := by
  induction l with
  | nil => rfl
  | cons e l ih =>
    obtain ⟨k', v'⟩ := e
    rw [erase]
    split
    · exact ih
    · rename_i h
      simp [get?, h, ih]

theorem get?_erase_other {k j : Nat} (h : j ≠ k) (l : List (Nat × β)) : get? j (erase k l) = get? j l := by
  induction l with
  | nil => rfl
  | cons e l ih =>
    obtain ⟨k', v'⟩ := e
    rw [erase]
    split
    · rename_i hk
      subst hk
      simp [get?, h, ih]
    · simp [get?, ih]

variable [DecidableEq β]

@[simp] theorem getD_put_same (d : β) (k : Nat) (v : β) (l : List (Nat × β)) : getD d k (put d k v l) = v := by
  unfold getD put
  split
  · simp_all
  · simp

theorem getD_put_other (d : β) {k j : Nat} (h : j ≠ k) (v : β) (l : List (Nat × β)) :
    getD d j (put d k v l) = getD d j l := by
  unfold getD put
  split
  · rw [get?_erase_other h]
  · rw [get?_insert_other h]

omit [DecidableEq β] in
theorem mem_insert {k : Nat} {v : β} {l : List (Nat × β)} {e : Nat × β} (h : e ∈ insert k v l) :
    e = (k, v) ∨ e ∈ l := by
  induction l with
  | nil =>
    simp only [insert, List.mem_singleton] at h
    exact .inl h
  | cons a l ih =>
    obtain ⟨k', v'⟩ := a
    rw [insert] at h
    split at h
    · simpa using h
    · split at h
      · simp only [List.mem_cons] at h ⊢
        tauto
      · simp only [List.mem_cons] at h ⊢
        rcases h with h | h
        · exact .inr (.inl h)
        · rcases ih h with h | h
          · exact .inl h
          · exact .inr (.inr h)

omit [DecidableEq β] in
theorem mem_erase {k : Nat} {l : List (Nat × β)} {e : Nat × β} (h : e ∈ erase k l) : e ∈ l := by
  induction l with
  | nil => simp [erase] at h
  | cons a l ih =>
    obtain ⟨k', v'⟩ := a
    rw [erase] at h
    split at h
    · exact List.mem_cons_of_mem _ (ih h)
    · simp only [List.mem_cons] at h ⊢
      exact h.imp id ih

omit [DecidableEq β] in
theorem above_insert {j k : Nat} (v : β) {l : List (Nat × β)} (h : j < k) (hl : above j l = true) :
    above j (insert k v l) = true := by
  simp only [above, List.all_eq_true, decide_eq_true_eq] at hl ⊢
  intro e he
  rcases mem_insert he with rfl | he
  · exact h
  · exact hl e he

omit [DecidableEq β] in
theorem above_erase {j : Nat} (k : Nat) {l : List (Nat × β)} (hl : above j l = true) :
    above j (erase k l) = true := by
  simp only [above, List.all_eq_true, decide_eq_true_eq] at hl ⊢
  exact fun e he => hl e (mem_erase he)

omit [DecidableEq β] in
theorem above_trans {j k : Nat} (h : j < k) {l : List (Nat × β)} (hl : above k l = true) : above j l = true := by
  simp only [above, List.all_eq_true, decide_eq_true_eq] at hl ⊢
  intro e he
  exact Nat.lt_trans h (hl e he)

omit [DecidableEq β] in
theorem rising_insert (k : Nat) (v : β) {l : List (Nat × β)} (hl : rising l = true) :
    rising (insert k v l) = true := by
  induction l with
  | nil => rfl
  | cons e l ih =>
    obtain ⟨k', v'⟩ := e
    simp only [rising, Bool.and_eq_true] at hl
    rw [insert]
    split
    · rename_i h
      have : above k ((k', v') :: l) = true := by
        simp only [above, List.all_cons, Bool.and_eq_true, decide_eq_true_eq]
        exact ⟨h, above_trans h hl.1⟩
      simp [rising, this, hl.1, hl.2]
    · split
      · rename_i h
        subst h
        simp [rising, hl.1, hl.2]
      · rename_i h₁ h₂
        have : k' < k := by omega
        simp [rising, above_insert v this hl.1, ih hl.2]

omit [DecidableEq β] in
theorem rising_erase (k : Nat) {l : List (Nat × β)} (hl : rising l = true) : rising (erase k l) = true := by
  induction l with
  | nil => rfl
  | cons e l ih =>
    obtain ⟨k', v'⟩ := e
    simp only [rising, Bool.and_eq_true] at hl
    rw [erase]
    split
    · exact ih hl.2
    · simp [rising, above_erase k hl.1, ih hl.2]

theorem canonical_put (d : β) (k : Nat) (v : β) {l : List (Nat × β)} (hl : canonical d l = true) :
    canonical d (put d k v l) = true := by
  simp only [canonical, Bool.and_eq_true, List.all_eq_true, decide_eq_true_eq] at hl ⊢
  unfold put
  split
  · exact ⟨rising_erase k hl.1, fun e he => hl.2 e (mem_erase he)⟩
  · rename_i h
    refine ⟨rising_insert k v hl.1, fun e he => ?_⟩
    rcases mem_insert he with rfl | he
    · exact h
    · exact hl.2 e he

theorem canonical_ofList (d : β) (l : List (Nat × β)) : canonical d (ofList d l) = true := by
  induction l with
  | nil => rfl
  | cons e l ih =>
    obtain ⟨k, v⟩ := e
    exact canonical_put d k v ih

end Sys2Proof.Machine.Assoc
end

