-- ==== Sys2Proof/Laws/State.lean ====
section
/-!
SUPPORT. One lemma per field of State per update of Machine/Ops.lean, true by rfl; then what the accessors read after
each update.
-/

namespace Sys2Proof.Machine

variable (s : State)

@[simp] theorem State.setSess_cfg (se : Session) : (s.setSess se).cfg = s.cfg := rfl
@[simp] theorem State.setSess_crc (se : Session) : (s.setSess se).crc = s.crc := rfl
@[simp] theorem State.setSess_sessions (se : Session) : (s.setSess se).sessions = Assoc.put Session.reset s.cur se s.sessions := rfl
@[simp] theorem State.setSess_registry (se : Session) : (s.setSess se).registry = s.registry := rfl
@[simp] theorem State.setSess_locks (se : Session) : (s.setSess se).locks = s.locks := rfl
@[simp] theorem State.setSess_rxFifo (se : Session) : (s.setSess se).rxFifo = s.rxFifo := rfl
@[simp] theorem State.setSess_txFifo (se : Session) : (s.setSess se).txFifo = s.txFifo := rfl
@[simp] theorem State.setSess_sent (se : Session) : (s.setSess se).sent = s.sent := rfl
@[simp] theorem State.setSess_busLog (se : Session) : (s.setSess se).busLog = s.busLog := rfl
@[simp] theorem State.setSess_cur (se : Session) : (s.setSess se).cur = s.cur := rfl
@[simp] theorem State.setSess_agenda (se : Session) : (s.setSess se).agenda = s.agenda := rfl
@[simp] theorem State.setSess_reply (se : Session) : (s.setSess se).reply = s.reply := rfl
@[simp] theorem State.setSess_free (se : Session) : (s.setSess se).free = s.free := rfl

@[simp] theorem State.setCrc_cfg (v : Word16) : (s.setCrc v).cfg = s.cfg := rfl
@[simp] theorem State.setCrc_crc (v : Word16) : (s.setCrc v).crc = v := rfl
@[simp] theorem State.setCrc_sessions (v : Word16) : (s.setCrc v).sessions = s.sessions := rfl
@[simp] theorem State.setCrc_registry (v : Word16) : (s.setCrc v).registry = s.registry := rfl
@[simp] theorem State.setCrc_locks (v : Word16) : (s.setCrc v).locks = s.locks := rfl
@[simp] theorem State.setCrc_rxFifo (v : Word16) : (s.setCrc v).rxFifo = s.rxFifo := rfl
@[simp] theorem State.setCrc_txFifo (v : Word16) : (s.setCrc v).txFifo = s.txFifo := rfl
@[simp] theorem State.setCrc_sent (v : Word16) : (s.setCrc v).sent = s.sent := rfl
@[simp] theorem State.setCrc_busLog (v : Word16) : (s.setCrc v).busLog = s.busLog := rfl
@[simp] theorem State.setCrc_cur (v : Word16) : (s.setCrc v).cur = s.cur := rfl
@[simp] theorem State.setCrc_agenda (v : Word16) : (s.setCrc v).agenda = s.agenda := rfl
@[simp] theorem State.setCrc_reply (v : Word16) : (s.setCrc v).reply = s.reply := rfl
@[simp] theorem State.setCrc_free (v : Word16) : (s.setCrc v).free = s.free := rfl

@[simp] theorem State.setReply_cfg (r : Reply) : (s.setReply r).cfg = s.cfg := rfl
@[simp] theorem State.setReply_crc (r : Reply) : (s.setReply r).crc = s.crc := rfl
@[simp] theorem State.setReply_sessions (r : Reply) : (s.setReply r).sessions = s.sessions := rfl
@[simp] theorem State.setReply_registry (r : Reply) : (s.setReply r).registry = s.registry := rfl
@[simp] theorem State.setReply_locks (r : Reply) : (s.setReply r).locks = s.locks := rfl
@[simp] theorem State.setReply_rxFifo (r : Reply) : (s.setReply r).rxFifo = s.rxFifo := rfl
@[simp] theorem State.setReply_txFifo (r : Reply) : (s.setReply r).txFifo = s.txFifo := rfl
@[simp] theorem State.setReply_sent (r : Reply) : (s.setReply r).sent = s.sent := rfl
@[simp] theorem State.setReply_busLog (r : Reply) : (s.setReply r).busLog = s.busLog := rfl
@[simp] theorem State.setReply_cur (r : Reply) : (s.setReply r).cur = s.cur := rfl
@[simp] theorem State.setReply_agenda (r : Reply) : (s.setReply r).agenda = s.agenda := rfl
@[simp] theorem State.setReply_reply (r : Reply) : (s.setReply r).reply = r := rfl
@[simp] theorem State.setReply_free (r : Reply) : (s.setReply r).free = s.free := rfl

@[simp] theorem State.bumpFree_cfg : s.bumpFree.cfg = s.cfg := rfl
@[simp] theorem State.bumpFree_crc : s.bumpFree.crc = s.crc := rfl
@[simp] theorem State.bumpFree_sessions : s.bumpFree.sessions = s.sessions := rfl
@[simp] theorem State.bumpFree_registry : s.bumpFree.registry = s.registry := rfl
@[simp] theorem State.bumpFree_locks : s.bumpFree.locks = s.locks := rfl
@[simp] theorem State.bumpFree_rxFifo : s.bumpFree.rxFifo = s.rxFifo := rfl
@[simp] theorem State.bumpFree_txFifo : s.bumpFree.txFifo = s.txFifo := rfl
@[simp] theorem State.bumpFree_sent : s.bumpFree.sent = s.sent := rfl
@[simp] theorem State.bumpFree_busLog : s.bumpFree.busLog = s.busLog := rfl
@[simp] theorem State.bumpFree_cur : s.bumpFree.cur = s.cur := rfl
@[simp] theorem State.bumpFree_agenda : s.bumpFree.agenda = s.agenda := rfl
@[simp] theorem State.bumpFree_reply : s.bumpFree.reply = s.reply := rfl
@[simp] theorem State.bumpFree_free : s.bumpFree.free = s.free + 1 := rfl

@[simp] theorem State.select_cfg (sid : SessId) (rest : List Input) : (s.select sid rest).cfg = s.cfg := rfl
@[simp] theorem State.select_crc (sid : SessId) (rest : List Input) : (s.select sid rest).crc = s.crc := rfl
@[simp] theorem State.select_sessions (sid : SessId) (rest : List Input) : (s.select sid rest).sessions = s.sessions := rfl
@[simp] theorem State.select_registry (sid : SessId) (rest : List Input) : (s.select sid rest).registry = s.registry := rfl
@[simp] theorem State.select_locks (sid : SessId) (rest : List Input) : (s.select sid rest).locks = s.locks := rfl
@[simp] theorem State.select_rxFifo (sid : SessId) (rest : List Input) : (s.select sid rest).rxFifo = s.rxFifo := rfl
@[simp] theorem State.select_txFifo (sid : SessId) (rest : List Input) : (s.select sid rest).txFifo = s.txFifo := rfl
@[simp] theorem State.select_sent (sid : SessId) (rest : List Input) : (s.select sid rest).sent = s.sent := rfl
@[simp] theorem State.select_busLog (sid : SessId) (rest : List Input) : (s.select sid rest).busLog = s.busLog := rfl
@[simp] theorem State.select_cur (sid : SessId) (rest : List Input) : (s.select sid rest).cur = sid := rfl
@[simp] theorem State.select_agenda (sid : SessId) (rest : List Input) : (s.select sid rest).agenda = rest := rfl
@[simp] theorem State.select_reply (sid : SessId) (rest : List Input) : (s.select sid rest).reply = s.reply := rfl
@[simp] theorem State.select_free (sid : SessId) (rest : List Input) : (s.select sid rest).free = s.free := rfl

@[simp] theorem State.takeLock_cfg (l : LinkId) : (s.takeLock l).cfg = s.cfg := rfl
@[simp] theorem State.takeLock_crc (l : LinkId) : (s.takeLock l).crc = s.crc := rfl
@[simp] theorem State.takeLock_sessions (l : LinkId) : (s.takeLock l).sessions = s.sessions := rfl
@[simp] theorem State.takeLock_registry (l : LinkId) : (s.takeLock l).registry = s.registry := rfl
@[simp] theorem State.takeLock_locks (l : LinkId) : (s.takeLock l).locks = Assoc.insert l s.cur s.locks := rfl
@[simp] theorem State.takeLock_rxFifo (l : LinkId) : (s.takeLock l).rxFifo = s.rxFifo := rfl
@[simp] theorem State.takeLock_txFifo (l : LinkId) : (s.takeLock l).txFifo = s.txFifo := rfl
@[simp] theorem State.takeLock_sent (l : LinkId) : (s.takeLock l).sent = s.sent := rfl
@[simp] theorem State.takeLock_busLog (l : LinkId) : (s.takeLock l).busLog = s.busLog := rfl
@[simp] theorem State.takeLock_cur (l : LinkId) : (s.takeLock l).cur = s.cur := rfl
@[simp] theorem State.takeLock_agenda (l : LinkId) : (s.takeLock l).agenda = s.agenda := rfl
@[simp] theorem State.takeLock_reply (l : LinkId) : (s.takeLock l).reply = s.reply := rfl
@[simp] theorem State.takeLock_free (l : LinkId) : (s.takeLock l).free = s.free := rfl

@[simp] theorem State.freeLock_cfg (l : LinkId) : (s.freeLock l).cfg = s.cfg := rfl
@[simp] theorem State.freeLock_crc (l : LinkId) : (s.freeLock l).crc = s.crc := rfl
@[simp] theorem State.freeLock_sessions (l : LinkId) : (s.freeLock l).sessions = s.sessions := rfl
@[simp] theorem State.freeLock_registry (l : LinkId) : (s.freeLock l).registry = s.registry := rfl
@[simp] theorem State.freeLock_locks (l : LinkId) : (s.freeLock l).locks = Assoc.erase l s.locks := rfl
@[simp] theorem State.freeLock_rxFifo (l : LinkId) : (s.freeLock l).rxFifo = s.rxFifo := rfl
@[simp] theorem State.freeLock_txFifo (l : LinkId) : (s.freeLock l).txFifo = s.txFifo := rfl
@[simp] theorem State.freeLock_sent (l : LinkId) : (s.freeLock l).sent = s.sent := rfl
@[simp] theorem State.freeLock_busLog (l : LinkId) : (s.freeLock l).busLog = s.busLog := rfl
@[simp] theorem State.freeLock_cur (l : LinkId) : (s.freeLock l).cur = s.cur := rfl
@[simp] theorem State.freeLock_agenda (l : LinkId) : (s.freeLock l).agenda = s.agenda := rfl
@[simp] theorem State.freeLock_reply (l : LinkId) : (s.freeLock l).reply = s.reply := rfl
@[simp] theorem State.freeLock_free (l : LinkId) : (s.freeLock l).free = s.free := rfl

@[simp] theorem State.setReg_cfg (l : LinkId) (e : RegEntry) : (s.setReg l e).cfg = s.cfg := rfl
@[simp] theorem State.setReg_crc (l : LinkId) (e : RegEntry) : (s.setReg l e).crc = s.crc := rfl
@[simp] theorem State.setReg_sessions (l : LinkId) (e : RegEntry) : (s.setReg l e).sessions = s.sessions := rfl
@[simp] theorem State.setReg_registry (l : LinkId) (e : RegEntry) : (s.setReg l e).registry = Assoc.insert l e s.registry := rfl
@[simp] theorem State.setReg_locks (l : LinkId) (e : RegEntry) : (s.setReg l e).locks = s.locks := rfl
@[simp] theorem State.setReg_rxFifo (l : LinkId) (e : RegEntry) : (s.setReg l e).rxFifo = s.rxFifo := rfl
@[simp] theorem State.setReg_txFifo (l : LinkId) (e : RegEntry) : (s.setReg l e).txFifo = s.txFifo := rfl
@[simp] theorem State.setReg_sent (l : LinkId) (e : RegEntry) : (s.setReg l e).sent = s.sent := rfl
@[simp] theorem State.setReg_busLog (l : LinkId) (e : RegEntry) : (s.setReg l e).busLog = s.busLog := rfl
@[simp] theorem State.setReg_cur (l : LinkId) (e : RegEntry) : (s.setReg l e).cur = s.cur := rfl
@[simp] theorem State.setReg_agenda (l : LinkId) (e : RegEntry) : (s.setReg l e).agenda = s.agenda := rfl
@[simp] theorem State.setReg_reply (l : LinkId) (e : RegEntry) : (s.setReg l e).reply = s.reply := rfl
@[simp] theorem State.setReg_free (l : LinkId) (e : RegEntry) : (s.setReg l e).free = s.free := rfl

@[simp] theorem State.dropReg_cfg (l : LinkId) : (s.dropReg l).cfg = s.cfg := rfl
@[simp] theorem State.dropReg_crc (l : LinkId) : (s.dropReg l).crc = s.crc := rfl
@[simp] theorem State.dropReg_sessions (l : LinkId) : (s.dropReg l).sessions = s.sessions := rfl
@[simp] theorem State.dropReg_registry (l : LinkId) : (s.dropReg l).registry = Assoc.erase l s.registry := rfl
@[simp] theorem State.dropReg_locks (l : LinkId) : (s.dropReg l).locks = s.locks := rfl
@[simp] theorem State.dropReg_rxFifo (l : LinkId) : (s.dropReg l).rxFifo = s.rxFifo := rfl
@[simp] theorem State.dropReg_txFifo (l : LinkId) : (s.dropReg l).txFifo = s.txFifo := rfl
@[simp] theorem State.dropReg_sent (l : LinkId) : (s.dropReg l).sent = s.sent := rfl
@[simp] theorem State.dropReg_busLog (l : LinkId) : (s.dropReg l).busLog = s.busLog := rfl
@[simp] theorem State.dropReg_cur (l : LinkId) : (s.dropReg l).cur = s.cur := rfl
@[simp] theorem State.dropReg_agenda (l : LinkId) : (s.dropReg l).agenda = s.agenda := rfl
@[simp] theorem State.dropReg_reply (l : LinkId) : (s.dropReg l).reply = s.reply := rfl
@[simp] theorem State.dropReg_free (l : LinkId) : (s.dropReg l).free = s.free := rfl

@[simp] theorem State.setRx_cfg (l : LinkId) (b : Bytes) : (s.setRx l b).cfg = s.cfg := rfl
@[simp] theorem State.setRx_crc (l : LinkId) (b : Bytes) : (s.setRx l b).crc = s.crc := rfl
@[simp] theorem State.setRx_sessions (l : LinkId) (b : Bytes) : (s.setRx l b).sessions = s.sessions := rfl
@[simp] theorem State.setRx_registry (l : LinkId) (b : Bytes) : (s.setRx l b).registry = s.registry := rfl
@[simp] theorem State.setRx_locks (l : LinkId) (b : Bytes) : (s.setRx l b).locks = s.locks := rfl
@[simp] theorem State.setRx_rxFifo (l : LinkId) (b : Bytes) : (s.setRx l b).rxFifo = Assoc.put [] l b s.rxFifo := rfl
@[simp] theorem State.setRx_txFifo (l : LinkId) (b : Bytes) : (s.setRx l b).txFifo = s.txFifo := rfl
@[simp] theorem State.setRx_sent (l : LinkId) (b : Bytes) : (s.setRx l b).sent = s.sent := rfl
@[simp] theorem State.setRx_busLog (l : LinkId) (b : Bytes) : (s.setRx l b).busLog = s.busLog := rfl
@[simp] theorem State.setRx_cur (l : LinkId) (b : Bytes) : (s.setRx l b).cur = s.cur := rfl
@[simp] theorem State.setRx_agenda (l : LinkId) (b : Bytes) : (s.setRx l b).agenda = s.agenda := rfl
@[simp] theorem State.setRx_reply (l : LinkId) (b : Bytes) : (s.setRx l b).reply = s.reply := rfl
@[simp] theorem State.setRx_free (l : LinkId) (b : Bytes) : (s.setRx l b).free = s.free := rfl

@[simp] theorem State.setTx_cfg (l : LinkId) (b : Bytes) : (s.setTx l b).cfg = s.cfg := rfl
@[simp] theorem State.setTx_crc (l : LinkId) (b : Bytes) : (s.setTx l b).crc = s.crc := rfl
@[simp] theorem State.setTx_sessions (l : LinkId) (b : Bytes) : (s.setTx l b).sessions = s.sessions := rfl
@[simp] theorem State.setTx_registry (l : LinkId) (b : Bytes) : (s.setTx l b).registry = s.registry := rfl
@[simp] theorem State.setTx_locks (l : LinkId) (b : Bytes) : (s.setTx l b).locks = s.locks := rfl
@[simp] theorem State.setTx_rxFifo (l : LinkId) (b : Bytes) : (s.setTx l b).rxFifo = s.rxFifo := rfl
@[simp] theorem State.setTx_txFifo (l : LinkId) (b : Bytes) : (s.setTx l b).txFifo = Assoc.put [] l b s.txFifo := rfl
@[simp] theorem State.setTx_sent (l : LinkId) (b : Bytes) : (s.setTx l b).sent = s.sent := rfl
@[simp] theorem State.setTx_busLog (l : LinkId) (b : Bytes) : (s.setTx l b).busLog = s.busLog := rfl
@[simp] theorem State.setTx_cur (l : LinkId) (b : Bytes) : (s.setTx l b).cur = s.cur := rfl
@[simp] theorem State.setTx_agenda (l : LinkId) (b : Bytes) : (s.setTx l b).agenda = s.agenda := rfl
@[simp] theorem State.setTx_reply (l : LinkId) (b : Bytes) : (s.setTx l b).reply = s.reply := rfl
@[simp] theorem State.setTx_free (l : LinkId) (b : Bytes) : (s.setTx l b).free = s.free := rfl

@[simp] theorem State.setWire_cfg (l : LinkId) (b : Bytes) : (s.setWire l b).cfg = s.cfg := rfl
@[simp] theorem State.setWire_crc (l : LinkId) (b : Bytes) : (s.setWire l b).crc = s.crc := rfl
@[simp] theorem State.setWire_sessions (l : LinkId) (b : Bytes) : (s.setWire l b).sessions = s.sessions := rfl
@[simp] theorem State.setWire_registry (l : LinkId) (b : Bytes) : (s.setWire l b).registry = s.registry := rfl
@[simp] theorem State.setWire_locks (l : LinkId) (b : Bytes) : (s.setWire l b).locks = s.locks := rfl
@[simp] theorem State.setWire_rxFifo (l : LinkId) (b : Bytes) : (s.setWire l b).rxFifo = s.rxFifo := rfl
@[simp] theorem State.setWire_txFifo (l : LinkId) (b : Bytes) : (s.setWire l b).txFifo = s.txFifo := rfl
@[simp] theorem State.setWire_sent (l : LinkId) (b : Bytes) : (s.setWire l b).sent = Assoc.put [] l b s.sent := rfl
@[simp] theorem State.setWire_busLog (l : LinkId) (b : Bytes) : (s.setWire l b).busLog = s.busLog := rfl
@[simp] theorem State.setWire_cur (l : LinkId) (b : Bytes) : (s.setWire l b).cur = s.cur := rfl
@[simp] theorem State.setWire_agenda (l : LinkId) (b : Bytes) : (s.setWire l b).agenda = s.agenda := rfl
@[simp] theorem State.setWire_reply (l : LinkId) (b : Bytes) : (s.setWire l b).reply = s.reply := rfl
@[simp] theorem State.setWire_free (l : LinkId) (b : Bytes) : (s.setWire l b).free = s.free := rfl

@[simp] theorem State.logBus_cfg (l : LinkId) (t : BusTxn) : (s.logBus l t).cfg = s.cfg := rfl
@[simp] theorem State.logBus_crc (l : LinkId) (t : BusTxn) : (s.logBus l t).crc = s.crc := rfl
@[simp] theorem State.logBus_sessions (l : LinkId) (t : BusTxn) : (s.logBus l t).sessions = s.sessions := rfl
@[simp] theorem State.logBus_registry (l : LinkId) (t : BusTxn) : (s.logBus l t).registry = s.registry := rfl
@[simp] theorem State.logBus_locks (l : LinkId) (t : BusTxn) : (s.logBus l t).locks = s.locks := rfl
@[simp] theorem State.logBus_rxFifo (l : LinkId) (t : BusTxn) : (s.logBus l t).rxFifo = s.rxFifo := rfl
@[simp] theorem State.logBus_txFifo (l : LinkId) (t : BusTxn) : (s.logBus l t).txFifo = s.txFifo := rfl
@[simp] theorem State.logBus_sent (l : LinkId) (t : BusTxn) : (s.logBus l t).sent = s.sent := rfl
@[simp] theorem State.logBus_busLog (l : LinkId) (t : BusTxn) : (s.logBus l t).busLog = s.busLog ++ [(l, t)] := rfl
@[simp] theorem State.logBus_cur (l : LinkId) (t : BusTxn) : (s.logBus l t).cur = s.cur := rfl
@[simp] theorem State.logBus_agenda (l : LinkId) (t : BusTxn) : (s.logBus l t).agenda = s.agenda := rfl
@[simp] theorem State.logBus_reply (l : LinkId) (t : BusTxn) : (s.logBus l t).reply = s.reply := rfl
@[simp] theorem State.logBus_free (l : LinkId) (t : BusTxn) : (s.logBus l t).free = s.free := rfl

@[simp] theorem State.runCrc_cfg (d : Bytes) : (s.runCrc d).cfg = s.cfg := rfl
@[simp] theorem State.runCrc_crc (d : Bytes) : (s.runCrc d).crc = crc16 d seed0 := rfl
@[simp] theorem State.runCrc_sessions (d : Bytes) : (s.runCrc d).sessions = s.sessions := rfl
@[simp] theorem State.runCrc_registry (d : Bytes) : (s.runCrc d).registry = s.registry := rfl
@[simp] theorem State.runCrc_locks (d : Bytes) : (s.runCrc d).locks = s.locks := rfl
@[simp] theorem State.runCrc_rxFifo (d : Bytes) : (s.runCrc d).rxFifo = s.rxFifo := rfl
@[simp] theorem State.runCrc_txFifo (d : Bytes) : (s.runCrc d).txFifo = s.txFifo := rfl
@[simp] theorem State.runCrc_sent (d : Bytes) : (s.runCrc d).sent = s.sent := rfl
@[simp] theorem State.runCrc_busLog (d : Bytes) : (s.runCrc d).busLog = s.busLog := rfl
@[simp] theorem State.runCrc_cur (d : Bytes) : (s.runCrc d).cur = s.cur := rfl
@[simp] theorem State.runCrc_agenda (d : Bytes) : (s.runCrc d).agenda = s.agenda := rfl
@[simp] theorem State.runCrc_reply (d : Bytes) : (s.runCrc d).reply = s.reply := rfl
@[simp] theorem State.runCrc_free (d : Bytes) : (s.runCrc d).free = s.free := rfl

@[simp] theorem State.streamTx_cfg (l : LinkId) (v : Bytes) : (s.streamTx l v).cfg = s.cfg := rfl
@[simp] theorem State.streamTx_crc (l : LinkId) (v : Bytes) : (s.streamTx l v).crc = s.crc := rfl
@[simp] theorem State.streamTx_sessions (l : LinkId) (v : Bytes) : (s.streamTx l v).sessions = s.sessions := rfl
@[simp] theorem State.streamTx_registry (l : LinkId) (v : Bytes) : (s.streamTx l v).registry = s.registry := rfl
@[simp] theorem State.streamTx_locks (l : LinkId) (v : Bytes) : (s.streamTx l v).locks = s.locks := rfl
@[simp] theorem State.streamTx_rxFifo (l : LinkId) (v : Bytes) : (s.streamTx l v).rxFifo = s.rxFifo := rfl
@[simp] theorem State.streamTx_txFifo (l : LinkId) (v : Bytes) : (s.streamTx l v).txFifo = Assoc.put [] l (s.tx l ++ v) s.txFifo := rfl
@[simp] theorem State.streamTx_sent (l : LinkId) (v : Bytes) : (s.streamTx l v).sent = s.sent := rfl
@[simp] theorem State.streamTx_busLog (l : LinkId) (v : Bytes) : (s.streamTx l v).busLog = s.busLog := rfl
@[simp] theorem State.streamTx_cur (l : LinkId) (v : Bytes) : (s.streamTx l v).cur = s.cur := rfl
@[simp] theorem State.streamTx_agenda (l : LinkId) (v : Bytes) : (s.streamTx l v).agenda = s.agenda := rfl
@[simp] theorem State.streamTx_reply (l : LinkId) (v : Bytes) : (s.streamTx l v).reply = s.reply := rfl
@[simp] theorem State.streamTx_free (l : LinkId) (v : Bytes) : (s.streamTx l v).free = s.free := rfl

@[simp] theorem State.flushIn_cfg (l : LinkId) : (s.flushIn l).cfg = s.cfg := rfl
@[simp] theorem State.flushIn_crc (l : LinkId) : (s.flushIn l).crc = s.crc := rfl
@[simp] theorem State.flushIn_sessions (l : LinkId) : (s.flushIn l).sessions = s.sessions := rfl
@[simp] theorem State.flushIn_registry (l : LinkId) : (s.flushIn l).registry = s.registry := rfl
@[simp] theorem State.flushIn_locks (l : LinkId) : (s.flushIn l).locks = s.locks := rfl
@[simp] theorem State.flushIn_rxFifo (l : LinkId) : (s.flushIn l).rxFifo = Assoc.put [] l [] s.rxFifo := rfl
@[simp] theorem State.flushIn_txFifo (l : LinkId) : (s.flushIn l).txFifo = s.txFifo := rfl
@[simp] theorem State.flushIn_sent (l : LinkId) : (s.flushIn l).sent = s.sent := rfl
@[simp] theorem State.flushIn_busLog (l : LinkId) : (s.flushIn l).busLog = s.busLog := rfl
@[simp] theorem State.flushIn_cur (l : LinkId) : (s.flushIn l).cur = s.cur := rfl
@[simp] theorem State.flushIn_agenda (l : LinkId) : (s.flushIn l).agenda = s.agenda := rfl
@[simp] theorem State.flushIn_reply (l : LinkId) : (s.flushIn l).reply = s.reply := rfl
@[simp] theorem State.flushIn_free (l : LinkId) : (s.flushIn l).free = s.free := rfl

@[simp] theorem State.flushOut_cfg (l : LinkId) : (s.flushOut l).cfg = s.cfg := rfl
@[simp] theorem State.flushOut_crc (l : LinkId) : (s.flushOut l).crc = s.crc := rfl
@[simp] theorem State.flushOut_sessions (l : LinkId) : (s.flushOut l).sessions = s.sessions := rfl
@[simp] theorem State.flushOut_registry (l : LinkId) : (s.flushOut l).registry = s.registry := rfl
@[simp] theorem State.flushOut_locks (l : LinkId) : (s.flushOut l).locks = s.locks := rfl
@[simp] theorem State.flushOut_rxFifo (l : LinkId) : (s.flushOut l).rxFifo = s.rxFifo := rfl
@[simp] theorem State.flushOut_txFifo (l : LinkId) : (s.flushOut l).txFifo = Assoc.put [] l [] s.txFifo := rfl
@[simp] theorem State.flushOut_sent (l : LinkId) : (s.flushOut l).sent = s.sent := rfl
@[simp] theorem State.flushOut_busLog (l : LinkId) : (s.flushOut l).busLog = s.busLog := rfl
@[simp] theorem State.flushOut_cur (l : LinkId) : (s.flushOut l).cur = s.cur := rfl
@[simp] theorem State.flushOut_agenda (l : LinkId) : (s.flushOut l).agenda = s.agenda := rfl
@[simp] theorem State.flushOut_reply (l : LinkId) : (s.flushOut l).reply = s.reply := rfl
@[simp] theorem State.flushOut_free (l : LinkId) : (s.flushOut l).free = s.free := rfl

@[simp] theorem State.arrive_cfg (l : LinkId) (v : Bytes) : (s.arrive l v).cfg = s.cfg := rfl
@[simp] theorem State.arrive_crc (l : LinkId) (v : Bytes) : (s.arrive l v).crc = s.crc := rfl
@[simp] theorem State.arrive_sessions (l : LinkId) (v : Bytes) : (s.arrive l v).sessions = s.sessions := rfl
@[simp] theorem State.arrive_registry (l : LinkId) (v : Bytes) : (s.arrive l v).registry = s.registry := rfl
@[simp] theorem State.arrive_locks (l : LinkId) (v : Bytes) : (s.arrive l v).locks = s.locks := rfl
@[simp] theorem State.arrive_rxFifo (l : LinkId) (v : Bytes) : (s.arrive l v).rxFifo = Assoc.put [] l (s.rx l ++ v) s.rxFifo := rfl
@[simp] theorem State.arrive_txFifo (l : LinkId) (v : Bytes) : (s.arrive l v).txFifo = s.txFifo := rfl
@[simp] theorem State.arrive_sent (l : LinkId) (v : Bytes) : (s.arrive l v).sent = s.sent := rfl
@[simp] theorem State.arrive_busLog (l : LinkId) (v : Bytes) : (s.arrive l v).busLog = s.busLog := rfl
@[simp] theorem State.arrive_cur (l : LinkId) (v : Bytes) : (s.arrive l v).cur = s.cur := rfl
@[simp] theorem State.arrive_agenda (l : LinkId) (v : Bytes) : (s.arrive l v).agenda = s.agenda := rfl
@[simp] theorem State.arrive_reply (l : LinkId) (v : Bytes) : (s.arrive l v).reply = s.reply := rfl
@[simp] theorem State.arrive_free (l : LinkId) (v : Bytes) : (s.arrive l v).free = s.free := rfl

@[simp] theorem State.busWrite_cfg (l : LinkId) (a : Byte) (v : Bytes) : (s.busWrite l a v).cfg = s.cfg := rfl
@[simp] theorem State.busWrite_crc (l : LinkId) (a : Byte) (v : Bytes) : (s.busWrite l a v).crc = s.crc := rfl
@[simp] theorem State.busWrite_sessions (l : LinkId) (a : Byte) (v : Bytes) : (s.busWrite l a v).sessions = s.sessions := rfl
@[simp] theorem State.busWrite_registry (l : LinkId) (a : Byte) (v : Bytes) : (s.busWrite l a v).registry = s.registry := rfl
@[simp] theorem State.busWrite_locks (l : LinkId) (a : Byte) (v : Bytes) : (s.busWrite l a v).locks = s.locks := rfl
@[simp] theorem State.busWrite_rxFifo (l : LinkId) (a : Byte) (v : Bytes) : (s.busWrite l a v).rxFifo = s.rxFifo := rfl
@[simp] theorem State.busWrite_txFifo (l : LinkId) (a : Byte) (v : Bytes) : (s.busWrite l a v).txFifo = s.txFifo := rfl
@[simp] theorem State.busWrite_sent (l : LinkId) (a : Byte) (v : Bytes) : (s.busWrite l a v).sent = s.sent := rfl
@[simp] theorem State.busWrite_busLog (l : LinkId) (a : Byte) (v : Bytes) : (s.busWrite l a v).busLog = s.busLog ++ [(l, BusTxn.write a v)] := rfl
@[simp] theorem State.busWrite_cur (l : LinkId) (a : Byte) (v : Bytes) : (s.busWrite l a v).cur = s.cur := rfl
@[simp] theorem State.busWrite_agenda (l : LinkId) (a : Byte) (v : Bytes) : (s.busWrite l a v).agenda = s.agenda := rfl
@[simp] theorem State.busWrite_reply (l : LinkId) (a : Byte) (v : Bytes) : (s.busWrite l a v).reply = s.reply := rfl
@[simp] theorem State.busWrite_free (l : LinkId) (a : Byte) (v : Bytes) : (s.busWrite l a v).free = s.free := rfl

@[simp] theorem State.busRead_cfg (l : LinkId) (a : Byte) (n : Nat) (r : Bytes) : (s.busRead l a n r).cfg = s.cfg := rfl
@[simp] theorem State.busRead_crc (l : LinkId) (a : Byte) (n : Nat) (r : Bytes) : (s.busRead l a n r).crc = s.crc := rfl
@[simp] theorem State.busRead_sessions (l : LinkId) (a : Byte) (n : Nat) (r : Bytes) : (s.busRead l a n r).sessions = s.sessions := rfl
@[simp] theorem State.busRead_registry (l : LinkId) (a : Byte) (n : Nat) (r : Bytes) : (s.busRead l a n r).registry = s.registry := rfl
@[simp] theorem State.busRead_locks (l : LinkId) (a : Byte) (n : Nat) (r : Bytes) : (s.busRead l a n r).locks = s.locks := rfl
@[simp] theorem State.busRead_rxFifo (l : LinkId) (a : Byte) (n : Nat) (r : Bytes) : (s.busRead l a n r).rxFifo = s.rxFifo := rfl
@[simp] theorem State.busRead_txFifo (l : LinkId) (a : Byte) (n : Nat) (r : Bytes) : (s.busRead l a n r).txFifo = s.txFifo := rfl
@[simp] theorem State.busRead_sent (l : LinkId) (a : Byte) (n : Nat) (r : Bytes) : (s.busRead l a n r).sent = s.sent := rfl
@[simp] theorem State.busRead_busLog (l : LinkId) (a : Byte) (n : Nat) (r : Bytes) : (s.busRead l a n r).busLog = s.busLog ++ [(l, BusTxn.read a n (busAnswer n r))] := rfl
@[simp] theorem State.busRead_cur (l : LinkId) (a : Byte) (n : Nat) (r : Bytes) : (s.busRead l a n r).cur = s.cur := rfl
@[simp] theorem State.busRead_agenda (l : LinkId) (a : Byte) (n : Nat) (r : Bytes) : (s.busRead l a n r).agenda = s.agenda := rfl
@[simp] theorem State.busRead_reply (l : LinkId) (a : Byte) (n : Nat) (r : Bytes) : (s.busRead l a n r).reply = s.reply := rfl
@[simp] theorem State.busRead_free (l : LinkId) (a : Byte) (n : Nat) (r : Bytes) : (s.busRead l a n r).free = s.free := rfl

@[simp] theorem State.runVerify_cfg (p : Bytes) : (s.runVerify p).cfg = s.cfg := by
  unfold State.runVerify
  split <;> rfl
@[simp] theorem State.runVerify_sessions (p : Bytes) : (s.runVerify p).sessions = s.sessions := by
  unfold State.runVerify
  split <;> rfl
@[simp] theorem State.runVerify_registry (p : Bytes) : (s.runVerify p).registry = s.registry := by
  unfold State.runVerify
  split <;> rfl
@[simp] theorem State.runVerify_locks (p : Bytes) : (s.runVerify p).locks = s.locks := by
  unfold State.runVerify
  split <;> rfl
@[simp] theorem State.runVerify_rxFifo (p : Bytes) : (s.runVerify p).rxFifo = s.rxFifo := by
  unfold State.runVerify
  split <;> rfl
@[simp] theorem State.runVerify_txFifo (p : Bytes) : (s.runVerify p).txFifo = s.txFifo := by
  unfold State.runVerify
  split <;> rfl
@[simp] theorem State.runVerify_sent (p : Bytes) : (s.runVerify p).sent = s.sent := by
  unfold State.runVerify
  split <;> rfl
@[simp] theorem State.runVerify_busLog (p : Bytes) : (s.runVerify p).busLog = s.busLog := by
  unfold State.runVerify
  split <;> rfl
@[simp] theorem State.runVerify_cur (p : Bytes) : (s.runVerify p).cur = s.cur := by
  unfold State.runVerify
  split <;> rfl
@[simp] theorem State.runVerify_agenda (p : Bytes) : (s.runVerify p).agenda = s.agenda := by
  unfold State.runVerify
  split <;> rfl
@[simp] theorem State.runVerify_reply (p : Bytes) : (s.runVerify p).reply = s.reply := by
  unfold State.runVerify
  split <;> rfl
@[simp] theorem State.runVerify_free (p : Bytes) : (s.runVerify p).free = s.free := by
  unfold State.runVerify
  split <;> rfl

theorem State.runVerify_crc (p : Bytes) :
    (s.runVerify p).crc = if p.length ≤ 2 then s.crc else crc16 (payloadOf p) seed0 := by
  unfold State.runVerify
  split <;> rfl

/-! ### Sessions -/

@[simp] theorem State.session_setSess_cur (se : Session) : (s.setSess se).session s.cur = se :=
  Assoc.getD_put_same Session.reset s.cur se s.sessions

theorem State.session_setSess_other (se : Session) {sid : SessId} (h : sid ≠ s.cur) :
    (s.setSess se).session sid = s.session sid :=
  Assoc.getD_put_other Session.reset h se s.sessions

@[simp] theorem State.sess_setSess (se : Session) : (s.setSess se).sess = se :=
  s.session_setSess_cur se

/-- What a write of the current session's registers leaves every session. -/
theorem State.session_setSess (se : Session) (sid : SessId) :
    (s.setSess se).session sid = if sid = s.cur then se else s.session sid := by
  by_cases h : sid = s.cur
  · subst h
    simp
  · simp [h, s.session_setSess_other se h]

@[simp] theorem State.session_setCrc (v : Word16) (k : SessId) : (s.setCrc v).session k = s.session k := rfl
@[simp] theorem State.sess_setCrc (v : Word16) : (s.setCrc v).sess = s.sess := rfl
@[simp] theorem State.session_setReply (r : Reply) (k : SessId) : (s.setReply r).session k = s.session k := rfl
@[simp] theorem State.sess_setReply (r : Reply) : (s.setReply r).sess = s.sess := rfl
@[simp] theorem State.session_bumpFree (k : SessId) : s.bumpFree.session k = s.session k := rfl
@[simp] theorem State.sess_bumpFree : s.bumpFree.sess = s.sess := rfl
@[simp] theorem State.session_select (sid : SessId) (rest : List Input) (k : SessId) : (s.select sid rest).session k = s.session k := rfl
@[simp] theorem State.session_takeLock (l : LinkId) (k : SessId) : (s.takeLock l).session k = s.session k := rfl
@[simp] theorem State.sess_takeLock (l : LinkId) : (s.takeLock l).sess = s.sess := rfl
@[simp] theorem State.session_freeLock (l : LinkId) (k : SessId) : (s.freeLock l).session k = s.session k := rfl
@[simp] theorem State.sess_freeLock (l : LinkId) : (s.freeLock l).sess = s.sess := rfl
@[simp] theorem State.session_setReg (l : LinkId) (e : RegEntry) (k : SessId) : (s.setReg l e).session k = s.session k := rfl
@[simp] theorem State.sess_setReg (l : LinkId) (e : RegEntry) : (s.setReg l e).sess = s.sess := rfl
@[simp] theorem State.session_dropReg (l : LinkId) (k : SessId) : (s.dropReg l).session k = s.session k := rfl
@[simp] theorem State.sess_dropReg (l : LinkId) : (s.dropReg l).sess = s.sess := rfl
@[simp] theorem State.session_setRx (l : LinkId) (b : Bytes) (k : SessId) : (s.setRx l b).session k = s.session k := rfl
@[simp] theorem State.sess_setRx (l : LinkId) (b : Bytes) : (s.setRx l b).sess = s.sess := rfl
@[simp] theorem State.session_setTx (l : LinkId) (b : Bytes) (k : SessId) : (s.setTx l b).session k = s.session k := rfl
@[simp] theorem State.sess_setTx (l : LinkId) (b : Bytes) : (s.setTx l b).sess = s.sess := rfl
@[simp] theorem State.session_setWire (l : LinkId) (b : Bytes) (k : SessId) : (s.setWire l b).session k = s.session k := rfl
@[simp] theorem State.sess_setWire (l : LinkId) (b : Bytes) : (s.setWire l b).sess = s.sess := rfl
@[simp] theorem State.session_logBus (l : LinkId) (t : BusTxn) (k : SessId) : (s.logBus l t).session k = s.session k := rfl
@[simp] theorem State.sess_logBus (l : LinkId) (t : BusTxn) : (s.logBus l t).sess = s.sess := rfl
@[simp] theorem State.session_runCrc (d : Bytes) (k : SessId) : (s.runCrc d).session k = s.session k := rfl
@[simp] theorem State.sess_runCrc (d : Bytes) : (s.runCrc d).sess = s.sess := rfl
@[simp] theorem State.session_streamTx (l : LinkId) (v : Bytes) (k : SessId) : (s.streamTx l v).session k = s.session k := rfl
@[simp] theorem State.sess_streamTx (l : LinkId) (v : Bytes) : (s.streamTx l v).sess = s.sess := rfl
@[simp] theorem State.session_flushIn (l : LinkId) (k : SessId) : (s.flushIn l).session k = s.session k := rfl
@[simp] theorem State.sess_flushIn (l : LinkId) : (s.flushIn l).sess = s.sess := rfl
@[simp] theorem State.session_flushOut (l : LinkId) (k : SessId) : (s.flushOut l).session k = s.session k := rfl
@[simp] theorem State.sess_flushOut (l : LinkId) : (s.flushOut l).sess = s.sess := rfl
@[simp] theorem State.session_arrive (l : LinkId) (v : Bytes) (k : SessId) : (s.arrive l v).session k = s.session k := rfl
@[simp] theorem State.sess_arrive (l : LinkId) (v : Bytes) : (s.arrive l v).sess = s.sess := rfl
@[simp] theorem State.session_busWrite (l : LinkId) (a : Byte) (v : Bytes) (k : SessId) : (s.busWrite l a v).session k = s.session k := rfl
@[simp] theorem State.sess_busWrite (l : LinkId) (a : Byte) (v : Bytes) : (s.busWrite l a v).sess = s.sess := rfl
@[simp] theorem State.session_busRead (l : LinkId) (a : Byte) (n : Nat) (r : Bytes) (k : SessId) : (s.busRead l a n r).session k = s.session k := rfl
@[simp] theorem State.sess_busRead (l : LinkId) (a : Byte) (n : Nat) (r : Bytes) : (s.busRead l a n r).sess = s.sess := rfl
@[simp] theorem State.sess_select (sid : SessId) (rest : List Input) : (s.select sid rest).sess = s.session sid :=
  rfl
@[simp] theorem State.session_runVerify (p : Bytes) (k : SessId) : (s.runVerify p).session k = s.session k := by
  unfold State.runVerify
  split <;> rfl
@[simp] theorem State.sess_runVerify (p : Bytes) : (s.runVerify p).sess = s.sess := by
  unfold State.runVerify
  split <;> rfl

/-! ### Queues -/

@[simp] theorem State.rx_setRx_same (l : LinkId) (b : Bytes) : (s.setRx l b).rx l = b :=
  Assoc.getD_put_same [] l b _

theorem State.rx_setRx_other (b : Bytes) {l k : LinkId} (h : k ≠ l) : (s.setRx l b).rx k = s.rx k :=
  Assoc.getD_put_other [] h b _

@[simp] theorem State.rx_setSess (se : Session) (k : LinkId) : (s.setSess se).rx k = s.rx k := rfl
@[simp] theorem State.rx_setCrc (v : Word16) (k : LinkId) : (s.setCrc v).rx k = s.rx k := rfl
@[simp] theorem State.rx_setReply (r : Reply) (k : LinkId) : (s.setReply r).rx k = s.rx k := rfl
@[simp] theorem State.rx_bumpFree (k : LinkId) : s.bumpFree.rx k = s.rx k := rfl
@[simp] theorem State.rx_select (sid : SessId) (rest : List Input) (k : LinkId) : (s.select sid rest).rx k = s.rx k := rfl
@[simp] theorem State.rx_takeLock (l : LinkId) (k : LinkId) : (s.takeLock l).rx k = s.rx k := rfl
@[simp] theorem State.rx_freeLock (l : LinkId) (k : LinkId) : (s.freeLock l).rx k = s.rx k := rfl
@[simp] theorem State.rx_setReg (l : LinkId) (e : RegEntry) (k : LinkId) : (s.setReg l e).rx k = s.rx k := rfl
@[simp] theorem State.rx_dropReg (l : LinkId) (k : LinkId) : (s.dropReg l).rx k = s.rx k := rfl
@[simp] theorem State.rx_setTx (l : LinkId) (b : Bytes) (k : LinkId) : (s.setTx l b).rx k = s.rx k := rfl
@[simp] theorem State.rx_setWire (l : LinkId) (b : Bytes) (k : LinkId) : (s.setWire l b).rx k = s.rx k := rfl
@[simp] theorem State.rx_logBus (l : LinkId) (t : BusTxn) (k : LinkId) : (s.logBus l t).rx k = s.rx k := rfl
@[simp] theorem State.rx_runCrc (d : Bytes) (k : LinkId) : (s.runCrc d).rx k = s.rx k := rfl
@[simp] theorem State.rx_streamTx (l : LinkId) (v : Bytes) (k : LinkId) : (s.streamTx l v).rx k = s.rx k := rfl
@[simp] theorem State.rx_flushOut (l : LinkId) (k : LinkId) : (s.flushOut l).rx k = s.rx k := rfl
@[simp] theorem State.rx_busWrite (l : LinkId) (a : Byte) (v : Bytes) (k : LinkId) : (s.busWrite l a v).rx k = s.rx k := rfl
@[simp] theorem State.rx_busRead (l : LinkId) (a : Byte) (n : Nat) (r : Bytes) (k : LinkId) : (s.busRead l a n r).rx k = s.rx k := rfl

@[simp] theorem State.tx_setTx_same (l : LinkId) (b : Bytes) : (s.setTx l b).tx l = b :=
  Assoc.getD_put_same [] l b _

theorem State.tx_setTx_other (b : Bytes) {l k : LinkId} (h : k ≠ l) : (s.setTx l b).tx k = s.tx k :=
  Assoc.getD_put_other [] h b _

@[simp] theorem State.tx_setSess (se : Session) (k : LinkId) : (s.setSess se).tx k = s.tx k := rfl
@[simp] theorem State.tx_setCrc (v : Word16) (k : LinkId) : (s.setCrc v).tx k = s.tx k := rfl
@[simp] theorem State.tx_setReply (r : Reply) (k : LinkId) : (s.setReply r).tx k = s.tx k := rfl
@[simp] theorem State.tx_bumpFree (k : LinkId) : s.bumpFree.tx k = s.tx k := rfl
@[simp] theorem State.tx_select (sid : SessId) (rest : List Input) (k : LinkId) : (s.select sid rest).tx k = s.tx k := rfl
@[simp] theorem State.tx_takeLock (l : LinkId) (k : LinkId) : (s.takeLock l).tx k = s.tx k := rfl
@[simp] theorem State.tx_freeLock (l : LinkId) (k : LinkId) : (s.freeLock l).tx k = s.tx k := rfl
@[simp] theorem State.tx_setReg (l : LinkId) (e : RegEntry) (k : LinkId) : (s.setReg l e).tx k = s.tx k := rfl
@[simp] theorem State.tx_dropReg (l : LinkId) (k : LinkId) : (s.dropReg l).tx k = s.tx k := rfl
@[simp] theorem State.tx_setRx (l : LinkId) (b : Bytes) (k : LinkId) : (s.setRx l b).tx k = s.tx k := rfl
@[simp] theorem State.tx_setWire (l : LinkId) (b : Bytes) (k : LinkId) : (s.setWire l b).tx k = s.tx k := rfl
@[simp] theorem State.tx_logBus (l : LinkId) (t : BusTxn) (k : LinkId) : (s.logBus l t).tx k = s.tx k := rfl
@[simp] theorem State.tx_runCrc (d : Bytes) (k : LinkId) : (s.runCrc d).tx k = s.tx k := rfl
@[simp] theorem State.tx_flushIn (l : LinkId) (k : LinkId) : (s.flushIn l).tx k = s.tx k := rfl
@[simp] theorem State.tx_arrive (l : LinkId) (v : Bytes) (k : LinkId) : (s.arrive l v).tx k = s.tx k := rfl
@[simp] theorem State.tx_busWrite (l : LinkId) (a : Byte) (v : Bytes) (k : LinkId) : (s.busWrite l a v).tx k = s.tx k := rfl
@[simp] theorem State.tx_busRead (l : LinkId) (a : Byte) (n : Nat) (r : Bytes) (k : LinkId) : (s.busRead l a n r).tx k = s.tx k := rfl

@[simp] theorem State.wire_setWire_same (l : LinkId) (b : Bytes) : (s.setWire l b).wire l = b :=
  Assoc.getD_put_same [] l b _

theorem State.wire_setWire_other (b : Bytes) {l k : LinkId} (h : k ≠ l) : (s.setWire l b).wire k = s.wire k :=
  Assoc.getD_put_other [] h b _

@[simp] theorem State.wire_setSess (se : Session) (k : LinkId) : (s.setSess se).wire k = s.wire k := rfl
@[simp] theorem State.wire_setCrc (v : Word16) (k : LinkId) : (s.setCrc v).wire k = s.wire k := rfl
@[simp] theorem State.wire_setReply (r : Reply) (k : LinkId) : (s.setReply r).wire k = s.wire k := rfl
@[simp] theorem State.wire_bumpFree (k : LinkId) : s.bumpFree.wire k = s.wire k := rfl
@[simp] theorem State.wire_select (sid : SessId) (rest : List Input) (k : LinkId) : (s.select sid rest).wire k = s.wire k := rfl
@[simp] theorem State.wire_takeLock (l : LinkId) (k : LinkId) : (s.takeLock l).wire k = s.wire k := rfl
@[simp] theorem State.wire_freeLock (l : LinkId) (k : LinkId) : (s.freeLock l).wire k = s.wire k := rfl
@[simp] theorem State.wire_setReg (l : LinkId) (e : RegEntry) (k : LinkId) : (s.setReg l e).wire k = s.wire k := rfl
@[simp] theorem State.wire_dropReg (l : LinkId) (k : LinkId) : (s.dropReg l).wire k = s.wire k := rfl
@[simp] theorem State.wire_setRx (l : LinkId) (b : Bytes) (k : LinkId) : (s.setRx l b).wire k = s.wire k := rfl
@[simp] theorem State.wire_setTx (l : LinkId) (b : Bytes) (k : LinkId) : (s.setTx l b).wire k = s.wire k := rfl
@[simp] theorem State.wire_logBus (l : LinkId) (t : BusTxn) (k : LinkId) : (s.logBus l t).wire k = s.wire k := rfl
@[simp] theorem State.wire_runCrc (d : Bytes) (k : LinkId) : (s.runCrc d).wire k = s.wire k := rfl
@[simp] theorem State.wire_streamTx (l : LinkId) (v : Bytes) (k : LinkId) : (s.streamTx l v).wire k = s.wire k := rfl
@[simp] theorem State.wire_flushIn (l : LinkId) (k : LinkId) : (s.flushIn l).wire k = s.wire k := rfl
@[simp] theorem State.wire_flushOut (l : LinkId) (k : LinkId) : (s.flushOut l).wire k = s.wire k := rfl
@[simp] theorem State.wire_arrive (l : LinkId) (v : Bytes) (k : LinkId) : (s.arrive l v).wire k = s.wire k := rfl
@[simp] theorem State.wire_busWrite (l : LinkId) (a : Byte) (v : Bytes) (k : LinkId) : (s.busWrite l a v).wire k = s.wire k := rfl
@[simp] theorem State.wire_busRead (l : LinkId) (a : Byte) (n : Nat) (r : Bytes) (k : LinkId) : (s.busRead l a n r).wire k = s.wire k := rfl

/-! ### Registry and locks -/

@[simp] theorem State.lockOf_takeLock_same (l : LinkId) : (s.takeLock l).lockOf l = some s.cur :=
  Assoc.get?_insert_same l s.cur s.locks

theorem State.lockOf_takeLock_other {l k : LinkId} (h : k ≠ l) : (s.takeLock l).lockOf k = s.lockOf k :=
  Assoc.get?_insert_other h s.cur s.locks

@[simp] theorem State.lockOf_freeLock_same (l : LinkId) : (s.freeLock l).lockOf l = none :=
  Assoc.get?_erase_same l s.locks

theorem State.lockOf_freeLock_other {l k : LinkId} (h : k ≠ l) : (s.freeLock l).lockOf k = s.lockOf k :=
  Assoc.get?_erase_other h s.locks

@[simp] theorem State.regEntry_setReg_same (l : LinkId) (e : RegEntry) : (s.setReg l e).regEntry l = some e :=
  Assoc.get?_insert_same l e s.registry

theorem State.regEntry_setReg_other (e : RegEntry) {l k : LinkId} (h : k ≠ l) :
    (s.setReg l e).regEntry k = s.regEntry k :=
  Assoc.get?_insert_other h e s.registry

@[simp] theorem State.regEntry_dropReg_same (l : LinkId) : (s.dropReg l).regEntry l = none :=
  Assoc.get?_erase_same l s.registry

theorem State.regEntry_dropReg_other {l k : LinkId} (h : k ≠ l) : (s.dropReg l).regEntry k = s.regEntry k :=
  Assoc.get?_erase_other h s.registry

@[simp] theorem State.lockOf_setSess (se : Session) (k : LinkId) : (s.setSess se).lockOf k = s.lockOf k := rfl
@[simp] theorem State.lockOf_setCrc (v : Word16) (k : LinkId) : (s.setCrc v).lockOf k = s.lockOf k := rfl
@[simp] theorem State.lockOf_setReply (r : Reply) (k : LinkId) : (s.setReply r).lockOf k = s.lockOf k := rfl
@[simp] theorem State.lockOf_bumpFree (k : LinkId) : s.bumpFree.lockOf k = s.lockOf k := rfl
@[simp] theorem State.lockOf_select (sid : SessId) (rest : List Input) (k : LinkId) : (s.select sid rest).lockOf k = s.lockOf k := rfl
@[simp] theorem State.lockOf_setReg (l : LinkId) (e : RegEntry) (k : LinkId) : (s.setReg l e).lockOf k = s.lockOf k := rfl
@[simp] theorem State.lockOf_dropReg (l : LinkId) (k : LinkId) : (s.dropReg l).lockOf k = s.lockOf k := rfl
@[simp] theorem State.lockOf_setRx (l : LinkId) (b : Bytes) (k : LinkId) : (s.setRx l b).lockOf k = s.lockOf k := rfl
@[simp] theorem State.lockOf_setTx (l : LinkId) (b : Bytes) (k : LinkId) : (s.setTx l b).lockOf k = s.lockOf k := rfl
@[simp] theorem State.lockOf_setWire (l : LinkId) (b : Bytes) (k : LinkId) : (s.setWire l b).lockOf k = s.lockOf k := rfl
@[simp] theorem State.lockOf_logBus (l : LinkId) (t : BusTxn) (k : LinkId) : (s.logBus l t).lockOf k = s.lockOf k := rfl
@[simp] theorem State.lockOf_runCrc (d : Bytes) (k : LinkId) : (s.runCrc d).lockOf k = s.lockOf k := rfl
@[simp] theorem State.lockOf_streamTx (l : LinkId) (v : Bytes) (k : LinkId) : (s.streamTx l v).lockOf k = s.lockOf k := rfl
@[simp] theorem State.lockOf_flushIn (l : LinkId) (k : LinkId) : (s.flushIn l).lockOf k = s.lockOf k := rfl
@[simp] theorem State.lockOf_flushOut (l : LinkId) (k : LinkId) : (s.flushOut l).lockOf k = s.lockOf k := rfl
@[simp] theorem State.lockOf_arrive (l : LinkId) (v : Bytes) (k : LinkId) : (s.arrive l v).lockOf k = s.lockOf k := rfl
@[simp] theorem State.lockOf_busWrite (l : LinkId) (a : Byte) (v : Bytes) (k : LinkId) : (s.busWrite l a v).lockOf k = s.lockOf k := rfl
@[simp] theorem State.lockOf_busRead (l : LinkId) (a : Byte) (n : Nat) (r : Bytes) (k : LinkId) : (s.busRead l a n r).lockOf k = s.lockOf k := rfl

@[simp] theorem State.regEntry_setSess (se : Session) (k : LinkId) : (s.setSess se).regEntry k = s.regEntry k := rfl
@[simp] theorem State.regEntry_setCrc (v : Word16) (k : LinkId) : (s.setCrc v).regEntry k = s.regEntry k := rfl
@[simp] theorem State.regEntry_setReply (r : Reply) (k : LinkId) : (s.setReply r).regEntry k = s.regEntry k := rfl
@[simp] theorem State.regEntry_bumpFree (k : LinkId) : s.bumpFree.regEntry k = s.regEntry k := rfl
@[simp] theorem State.regEntry_select (sid : SessId) (rest : List Input) (k : LinkId) : (s.select sid rest).regEntry k = s.regEntry k := rfl
@[simp] theorem State.regEntry_takeLock (l : LinkId) (k : LinkId) : (s.takeLock l).regEntry k = s.regEntry k := rfl
@[simp] theorem State.regEntry_freeLock (l : LinkId) (k : LinkId) : (s.freeLock l).regEntry k = s.regEntry k := rfl
@[simp] theorem State.regEntry_setRx (l : LinkId) (b : Bytes) (k : LinkId) : (s.setRx l b).regEntry k = s.regEntry k := rfl
@[simp] theorem State.regEntry_setTx (l : LinkId) (b : Bytes) (k : LinkId) : (s.setTx l b).regEntry k = s.regEntry k := rfl
@[simp] theorem State.regEntry_setWire (l : LinkId) (b : Bytes) (k : LinkId) : (s.setWire l b).regEntry k = s.regEntry k := rfl
@[simp] theorem State.regEntry_logBus (l : LinkId) (t : BusTxn) (k : LinkId) : (s.logBus l t).regEntry k = s.regEntry k := rfl
@[simp] theorem State.regEntry_runCrc (d : Bytes) (k : LinkId) : (s.runCrc d).regEntry k = s.regEntry k := rfl
@[simp] theorem State.regEntry_streamTx (l : LinkId) (v : Bytes) (k : LinkId) : (s.streamTx l v).regEntry k = s.regEntry k := rfl
@[simp] theorem State.regEntry_flushIn (l : LinkId) (k : LinkId) : (s.flushIn l).regEntry k = s.regEntry k := rfl
@[simp] theorem State.regEntry_flushOut (l : LinkId) (k : LinkId) : (s.flushOut l).regEntry k = s.regEntry k := rfl
@[simp] theorem State.regEntry_arrive (l : LinkId) (v : Bytes) (k : LinkId) : (s.arrive l v).regEntry k = s.regEntry k := rfl
@[simp] theorem State.regEntry_busWrite (l : LinkId) (a : Byte) (v : Bytes) (k : LinkId) : (s.busWrite l a v).regEntry k = s.regEntry k := rfl
@[simp] theorem State.regEntry_busRead (l : LinkId) (a : Byte) (n : Nat) (r : Bytes) (k : LinkId) : (s.busRead l a n r).regEntry k = s.regEntry k := rfl

end Sys2Proof.Machine
end

