-- ==== Sys2Proof/Laws/Memory.lean ====
section
/-!
SUPPORT. Every operation on the keyed stores keeps them in canonical form (Memory.wf), and the state after reset
has it.
-/

namespace Sys2Proof.Machine

theorem Memory.wf_iff (s : State) :
    Memory.wf s = true ↔
      Assoc.canonical Session.reset s.sessions = true ∧ Assoc.rising s.registry = true ∧
      Assoc.rising s.locks = true ∧ Assoc.canonical [] s.rxFifo = true ∧
      Assoc.canonical [] s.txFifo = true ∧ Assoc.canonical [] s.sent = true := by
  simp [Memory.wf, and_assoc]

theorem Memory.wf_reset : Memory.wf State.reset = true := by decide

variable {s : State}

/-- Memory.wf depends on the keyed stores alone. -/
theorem Memory.wf_congr {t : State} (h : Memory.wf s = true) (h₁ : t.sessions = s.sessions)
    (h₂ : t.registry = s.registry) (h₃ : t.locks = s.locks) (h₄ : t.rxFifo = s.rxFifo)
    (h₅ : t.txFifo = s.txFifo) (h₆ : t.sent = s.sent) : Memory.wf t = true := by
  unfold Memory.wf at *
  rw [h₁, h₂, h₃, h₄, h₅, h₆]
  exact h

theorem Memory.wf_setSess (se : Session) (h : Memory.wf s = true) : Memory.wf (s.setSess se) = true := by
  rw [Memory.wf_iff] at *
  exact ⟨Assoc.canonical_put _ _ _ h.1, h.2⟩

theorem Memory.wf_setReg (l : LinkId) (e : RegEntry) (h : Memory.wf s = true) :
    Memory.wf (s.setReg l e) = true := by
  rw [Memory.wf_iff] at *
  exact ⟨h.1, Assoc.rising_insert l e h.2.1, h.2.2⟩

theorem Memory.wf_dropReg (l : LinkId) (h : Memory.wf s = true) : Memory.wf (s.dropReg l) = true := by
  rw [Memory.wf_iff] at *
  exact ⟨h.1, Assoc.rising_erase l h.2.1, h.2.2⟩

theorem Memory.wf_takeLock (l : LinkId) (h : Memory.wf s = true) : Memory.wf (s.takeLock l) = true := by
  rw [Memory.wf_iff] at *
  exact ⟨h.1, h.2.1, Assoc.rising_insert l s.cur h.2.2.1, h.2.2.2⟩

theorem Memory.wf_freeLock (l : LinkId) (h : Memory.wf s = true) : Memory.wf (s.freeLock l) = true := by
  rw [Memory.wf_iff] at *
  exact ⟨h.1, h.2.1, Assoc.rising_erase l h.2.2.1, h.2.2.2⟩

theorem Memory.wf_setRx (l : LinkId) (b : Bytes) (h : Memory.wf s = true) : Memory.wf (s.setRx l b) = true := by
  rw [Memory.wf_iff] at *
  exact ⟨h.1, h.2.1, h.2.2.1, Assoc.canonical_put _ _ _ h.2.2.2.1, h.2.2.2.2⟩

theorem Memory.wf_setTx (l : LinkId) (b : Bytes) (h : Memory.wf s = true) : Memory.wf (s.setTx l b) = true := by
  rw [Memory.wf_iff] at *
  exact ⟨h.1, h.2.1, h.2.2.1, h.2.2.2.1, Assoc.canonical_put _ _ _ h.2.2.2.2.1, h.2.2.2.2.2⟩

theorem Memory.wf_setWire (l : LinkId) (b : Bytes) (h : Memory.wf s = true) :
    Memory.wf (s.setWire l b) = true := by
  rw [Memory.wf_iff] at *
  exact ⟨h.1, h.2.1, h.2.2.1, h.2.2.2.1, h.2.2.2.2.1, Assoc.canonical_put _ _ _ h.2.2.2.2.2⟩

theorem Memory.wf_setCrc (v : Word16) (h : Memory.wf s = true) : Memory.wf (s.setCrc v) = true := h

theorem Memory.wf_setReply (r : Reply) (h : Memory.wf s = true) : Memory.wf (s.setReply r) = true := h

theorem Memory.wf_bumpFree (h : Memory.wf s = true) : Memory.wf s.bumpFree = true := h

theorem Memory.wf_select (sid : SessId) (rest : List Input) (h : Memory.wf s = true) :
    Memory.wf (s.select sid rest) = true := h

theorem Memory.wf_logBus (l : LinkId) (t : BusTxn) (h : Memory.wf s = true) :
    Memory.wf (s.logBus l t) = true := h

theorem Memory.wf_runVerify (p : Bytes) (h : Memory.wf s = true) : Memory.wf (s.runVerify p) = true := by
  unfold State.runVerify
  split
  · exact h
  · exact h

theorem Memory.wf_leaveLink (l : LinkId) (h : Memory.wf s = true) : Memory.wf (s.leaveLink l) = true := by
  unfold State.leaveLink
  split
  · exact h
  · split
    · exact Memory.wf_dropReg l h
    · exact Memory.wf_setReg l _ h

theorem Memory.wf_flushRecover (h : Memory.wf s = true) : Memory.wf s.flushRecover = true :=
  Memory.wf_setSess _ (Memory.wf_setTx _ _ (Memory.wf_setRx _ _ h))

theorem Memory.wf_arrive (l : LinkId) (v : Bytes) (h : Memory.wf s = true) : Memory.wf (s.arrive l v) = true :=
  Memory.wf_setRx _ _ h

theorem Memory.wf_transmit (l : LinkId) (n : Nat) (h : Memory.wf s = true) :
    Memory.wf (s.transmit l n) = true :=
  Memory.wf_setTx _ _ (Memory.wf_setWire _ _ h)

end Sys2Proof.Machine
end

