-- ==== Sys2Proof/Laws/Session.lean ====
section
/-!
SUPPORT. One lemma per field of Session per update of a session's registers, true by rfl.
-/

namespace Sys2Proof.Machine

variable (se : Session)

@[simp] theorem Session.record_kind (cls : TraceClass) (a : TraceAction) : (se.record cls a).kind = se.kind := rfl
@[simp] theorem Session.record_addr (cls : TraceClass) (a : TraceAction) : (se.record cls a).addr = se.addr := rfl
@[simp] theorem Session.record_linkId (cls : TraceClass) (a : TraceAction) : (se.record cls a).linkId = se.linkId := rfl
@[simp] theorem Session.record_isOpen (cls : TraceClass) (a : TraceAction) : (se.record cls a).isOpen = se.isOpen := rfl
@[simp] theorem Session.record_readCrcErrors (cls : TraceClass) (a : TraceAction) : (se.record cls a).readCrcErrors = se.readCrcErrors := rfl
@[simp] theorem Session.record_writeCrcErrors (cls : TraceClass) (a : TraceAction) : (se.record cls a).writeCrcErrors = se.writeCrcErrors := rfl
@[simp] theorem Session.record_txPkt (cls : TraceClass) (a : TraceAction) : (se.record cls a).txPkt = se.txPkt := rfl
@[simp] theorem Session.record_rxBuf (cls : TraceClass) (a : TraceAction) : (se.record cls a).rxBuf = se.rxBuf := rfl
@[simp] theorem Session.record_hdr (cls : TraceClass) (a : TraceAction) : (se.record cls a).hdr = se.hdr := rfl
@[simp] theorem Session.record_acq (cls : TraceClass) (a : TraceAction) : (se.record cls a).acq = se.acq := rfl
@[simp] theorem Session.record_result (cls : TraceClass) (a : TraceAction) : (se.record cls a).result = se.result := rfl
@[simp] theorem Session.record_st (cls : TraceClass) (a : TraceAction) : (se.record cls a).st = se.st := rfl
@[simp] theorem Session.record_fs (cls : TraceClass) (a : TraceAction) : (se.record cls a).fs = se.fs := rfl
@[simp] theorem Session.record_bx (cls : TraceClass) (a : TraceAction) : (se.record cls a).bx = se.bx := rfl
@[simp] theorem Session.record_termSeen (cls : TraceClass) (a : TraceAction) : (se.record cls a).termSeen = se.termSeen := rfl
@[simp] theorem Session.record_ckOk (cls : TraceClass) (a : TraceAction) : (se.record cls a).ckOk = se.ckOk := rfl
@[simp] theorem Session.record_hdrCkOk (cls : TraceClass) (a : TraceAction) : (se.record cls a).hdrCkOk = se.hdrCkOk := rfl
@[simp] theorem Session.record_hdrNak (cls : TraceClass) (a : TraceAction) : (se.record cls a).hdrNak = se.hdrNak := rfl
@[simp] theorem Session.record_skipWrite (cls : TraceClass) (a : TraceAction) : (se.record cls a).skipWrite = se.skipWrite := rfl
@[simp] theorem Session.record_attempts (cls : TraceClass) (a : TraceAction) : (se.record cls a).attempts = se.attempts := rfl
@[simp] theorem Session.record_nNoframe (cls : TraceClass) (a : TraceAction) : (se.record cls a).nNoframe = se.nNoframe := rfl
@[simp] theorem Session.record_nCorrupt (cls : TraceClass) (a : TraceAction) : (se.record cls a).nCorrupt = se.nCorrupt := rfl
@[simp] theorem Session.record_nNak (cls : TraceClass) (a : TraceAction) : (se.record cls a).nNak = se.nNak := rfl
@[simp] theorem Session.record_nHdr (cls : TraceClass) (a : TraceAction) : (se.record cls a).nHdr = se.nHdr := rfl
@[simp] theorem Session.record_txSel (cls : TraceClass) (a : TraceAction) : (se.record cls a).txSel = se.txSel := rfl
@[simp] theorem Session.record_trace (cls : TraceClass) (a : TraceAction) : (se.record cls a).trace = se.trace ++ [⟨se.attempts, cls, a⟩] := rfl
@[simp] theorem Session.record_waiting (cls : TraceClass) (a : TraceAction) : (se.record cls a).waiting = se.waiting := rfl

@[simp] theorem Session.raiseError_kind (cls : TraceClass) (tag : ErrTag) (d : Bytes) : (se.raiseError cls tag d).kind = se.kind := rfl
@[simp] theorem Session.raiseError_addr (cls : TraceClass) (tag : ErrTag) (d : Bytes) : (se.raiseError cls tag d).addr = se.addr := rfl
@[simp] theorem Session.raiseError_linkId (cls : TraceClass) (tag : ErrTag) (d : Bytes) : (se.raiseError cls tag d).linkId = se.linkId := rfl
@[simp] theorem Session.raiseError_isOpen (cls : TraceClass) (tag : ErrTag) (d : Bytes) : (se.raiseError cls tag d).isOpen = se.isOpen := rfl
@[simp] theorem Session.raiseError_readCrcErrors (cls : TraceClass) (tag : ErrTag) (d : Bytes) : (se.raiseError cls tag d).readCrcErrors = se.readCrcErrors := rfl
@[simp] theorem Session.raiseError_writeCrcErrors (cls : TraceClass) (tag : ErrTag) (d : Bytes) : (se.raiseError cls tag d).writeCrcErrors = se.writeCrcErrors := rfl
@[simp] theorem Session.raiseError_txPkt (cls : TraceClass) (tag : ErrTag) (d : Bytes) : (se.raiseError cls tag d).txPkt = se.txPkt := rfl
@[simp] theorem Session.raiseError_rxBuf (cls : TraceClass) (tag : ErrTag) (d : Bytes) : (se.raiseError cls tag d).rxBuf = se.rxBuf := rfl
@[simp] theorem Session.raiseError_hdr (cls : TraceClass) (tag : ErrTag) (d : Bytes) : (se.raiseError cls tag d).hdr = se.hdr := rfl
@[simp] theorem Session.raiseError_acq (cls : TraceClass) (tag : ErrTag) (d : Bytes) : (se.raiseError cls tag d).acq = se.acq := rfl
@[simp] theorem Session.raiseError_result (cls : TraceClass) (tag : ErrTag) (d : Bytes) : (se.raiseError cls tag d).result = .err tag se.addr d := rfl
@[simp] theorem Session.raiseError_st (cls : TraceClass) (tag : ErrTag) (d : Bytes) : (se.raiseError cls tag d).st = .fatal := rfl
@[simp] theorem Session.raiseError_fs (cls : TraceClass) (tag : ErrTag) (d : Bytes) : (se.raiseError cls tag d).fs = se.fs := rfl
@[simp] theorem Session.raiseError_bx (cls : TraceClass) (tag : ErrTag) (d : Bytes) : (se.raiseError cls tag d).bx = se.bx := rfl
@[simp] theorem Session.raiseError_termSeen (cls : TraceClass) (tag : ErrTag) (d : Bytes) : (se.raiseError cls tag d).termSeen = se.termSeen := rfl
@[simp] theorem Session.raiseError_ckOk (cls : TraceClass) (tag : ErrTag) (d : Bytes) : (se.raiseError cls tag d).ckOk = se.ckOk := rfl
@[simp] theorem Session.raiseError_hdrCkOk (cls : TraceClass) (tag : ErrTag) (d : Bytes) : (se.raiseError cls tag d).hdrCkOk = se.hdrCkOk := rfl
@[simp] theorem Session.raiseError_hdrNak (cls : TraceClass) (tag : ErrTag) (d : Bytes) : (se.raiseError cls tag d).hdrNak = se.hdrNak := rfl
@[simp] theorem Session.raiseError_skipWrite (cls : TraceClass) (tag : ErrTag) (d : Bytes) : (se.raiseError cls tag d).skipWrite = se.skipWrite := rfl
@[simp] theorem Session.raiseError_attempts (cls : TraceClass) (tag : ErrTag) (d : Bytes) : (se.raiseError cls tag d).attempts = se.attempts := rfl
@[simp] theorem Session.raiseError_nNoframe (cls : TraceClass) (tag : ErrTag) (d : Bytes) : (se.raiseError cls tag d).nNoframe = se.nNoframe := rfl
@[simp] theorem Session.raiseError_nCorrupt (cls : TraceClass) (tag : ErrTag) (d : Bytes) : (se.raiseError cls tag d).nCorrupt = se.nCorrupt := rfl
@[simp] theorem Session.raiseError_nNak (cls : TraceClass) (tag : ErrTag) (d : Bytes) : (se.raiseError cls tag d).nNak = se.nNak := rfl
@[simp] theorem Session.raiseError_nHdr (cls : TraceClass) (tag : ErrTag) (d : Bytes) : (se.raiseError cls tag d).nHdr = se.nHdr := rfl
@[simp] theorem Session.raiseError_txSel (cls : TraceClass) (tag : ErrTag) (d : Bytes) : (se.raiseError cls tag d).txSel = se.txSel := rfl
@[simp] theorem Session.raiseError_trace (cls : TraceClass) (tag : ErrTag) (d : Bytes) : (se.raiseError cls tag d).trace = se.trace ++ [⟨se.attempts, cls, .none⟩] := rfl
@[simp] theorem Session.raiseError_waiting (cls : TraceClass) (tag : ErrTag) (d : Bytes) : (se.raiseError cls tag d).waiting = se.waiting := rfl

@[simp] theorem Session.startAcquire_kind : se.startAcquire.kind = se.kind := rfl
@[simp] theorem Session.startAcquire_addr : se.startAcquire.addr = se.addr := rfl
@[simp] theorem Session.startAcquire_linkId : se.startAcquire.linkId = se.linkId := rfl
@[simp] theorem Session.startAcquire_isOpen : se.startAcquire.isOpen = se.isOpen := rfl
@[simp] theorem Session.startAcquire_readCrcErrors : se.startAcquire.readCrcErrors = se.readCrcErrors := rfl
@[simp] theorem Session.startAcquire_writeCrcErrors : se.startAcquire.writeCrcErrors = se.writeCrcErrors := rfl
@[simp] theorem Session.startAcquire_txPkt : se.startAcquire.txPkt = se.txPkt := rfl
@[simp] theorem Session.startAcquire_rxBuf : se.startAcquire.rxBuf = [] := rfl
@[simp] theorem Session.startAcquire_hdr : se.startAcquire.hdr = se.hdr := rfl
@[simp] theorem Session.startAcquire_acq : se.startAcquire.acq = se.acq := rfl
@[simp] theorem Session.startAcquire_result : se.startAcquire.result = se.result := rfl
@[simp] theorem Session.startAcquire_st : se.startAcquire.st = se.st := rfl
@[simp] theorem Session.startAcquire_fs : se.startAcquire.fs = .ck0 := rfl
@[simp] theorem Session.startAcquire_bx : se.startAcquire.bx = se.bx := rfl
@[simp] theorem Session.startAcquire_termSeen : se.startAcquire.termSeen = false := rfl
@[simp] theorem Session.startAcquire_ckOk : se.startAcquire.ckOk = se.ckOk := rfl
@[simp] theorem Session.startAcquire_hdrCkOk : se.startAcquire.hdrCkOk = se.hdrCkOk := rfl
@[simp] theorem Session.startAcquire_hdrNak : se.startAcquire.hdrNak = se.hdrNak := rfl
@[simp] theorem Session.startAcquire_skipWrite : se.startAcquire.skipWrite = se.skipWrite := rfl
@[simp] theorem Session.startAcquire_attempts : se.startAcquire.attempts = se.attempts := rfl
@[simp] theorem Session.startAcquire_nNoframe : se.startAcquire.nNoframe = se.nNoframe := rfl
@[simp] theorem Session.startAcquire_nCorrupt : se.startAcquire.nCorrupt = se.nCorrupt := rfl
@[simp] theorem Session.startAcquire_nNak : se.startAcquire.nNak = se.nNak := rfl
@[simp] theorem Session.startAcquire_nHdr : se.startAcquire.nHdr = se.nHdr := rfl
@[simp] theorem Session.startAcquire_txSel : se.startAcquire.txSel = se.txSel := rfl
@[simp] theorem Session.startAcquire_trace : se.startAcquire.trace = se.trace := rfl
@[simp] theorem Session.startAcquire_waiting : se.startAcquire.waiting = se.waiting := rfl

@[simp] theorem Session.selectOriginal_kind : se.selectOriginal.kind = se.kind := rfl
@[simp] theorem Session.selectOriginal_addr : se.selectOriginal.addr = se.addr := rfl
@[simp] theorem Session.selectOriginal_linkId : se.selectOriginal.linkId = se.linkId := rfl
@[simp] theorem Session.selectOriginal_isOpen : se.selectOriginal.isOpen = se.isOpen := rfl
@[simp] theorem Session.selectOriginal_readCrcErrors : se.selectOriginal.readCrcErrors = se.readCrcErrors := rfl
@[simp] theorem Session.selectOriginal_writeCrcErrors : se.selectOriginal.writeCrcErrors = se.writeCrcErrors := rfl
@[simp] theorem Session.selectOriginal_txPkt : se.selectOriginal.txPkt = se.txPkt := rfl
@[simp] theorem Session.selectOriginal_rxBuf : se.selectOriginal.rxBuf = se.rxBuf := rfl
@[simp] theorem Session.selectOriginal_hdr : se.selectOriginal.hdr = se.hdr := rfl
@[simp] theorem Session.selectOriginal_acq : se.selectOriginal.acq = se.acq := rfl
@[simp] theorem Session.selectOriginal_result : se.selectOriginal.result = se.result := rfl
@[simp] theorem Session.selectOriginal_st : se.selectOriginal.st = se.st := rfl
@[simp] theorem Session.selectOriginal_fs : se.selectOriginal.fs = se.fs := rfl
@[simp] theorem Session.selectOriginal_bx : se.selectOriginal.bx = se.bx := rfl
@[simp] theorem Session.selectOriginal_termSeen : se.selectOriginal.termSeen = se.termSeen := rfl
@[simp] theorem Session.selectOriginal_ckOk : se.selectOriginal.ckOk = se.ckOk := rfl
@[simp] theorem Session.selectOriginal_hdrCkOk : se.selectOriginal.hdrCkOk = se.hdrCkOk := rfl
@[simp] theorem Session.selectOriginal_hdrNak : se.selectOriginal.hdrNak = se.hdrNak := rfl
@[simp] theorem Session.selectOriginal_skipWrite : se.selectOriginal.skipWrite = se.skipWrite := rfl
@[simp] theorem Session.selectOriginal_attempts : se.selectOriginal.attempts = se.attempts := rfl
@[simp] theorem Session.selectOriginal_nNoframe : se.selectOriginal.nNoframe = se.nNoframe := rfl
@[simp] theorem Session.selectOriginal_nCorrupt : se.selectOriginal.nCorrupt = se.nCorrupt := rfl
@[simp] theorem Session.selectOriginal_nNak : se.selectOriginal.nNak = se.nNak := rfl
@[simp] theorem Session.selectOriginal_nHdr : se.selectOriginal.nHdr = se.nHdr := rfl
@[simp] theorem Session.selectOriginal_txSel : se.selectOriginal.txSel = .original := rfl
@[simp] theorem Session.selectOriginal_trace : se.selectOriginal.trace = se.trace := rfl
@[simp] theorem Session.selectOriginal_waiting : se.selectOriginal.waiting = se.waiting := rfl

@[simp] theorem Session.acquired_kind : se.acquired.kind = se.kind := rfl
@[simp] theorem Session.acquired_addr : se.acquired.addr = se.addr := rfl
@[simp] theorem Session.acquired_linkId : se.acquired.linkId = se.linkId := rfl
@[simp] theorem Session.acquired_isOpen : se.acquired.isOpen = se.isOpen := rfl
@[simp] theorem Session.acquired_readCrcErrors : se.acquired.readCrcErrors = se.readCrcErrors := rfl
@[simp] theorem Session.acquired_writeCrcErrors : se.acquired.writeCrcErrors = se.writeCrcErrors := rfl
@[simp] theorem Session.acquired_txPkt : se.acquired.txPkt = se.txPkt := rfl
@[simp] theorem Session.acquired_rxBuf : se.acquired.rxBuf = se.rxBuf := rfl
@[simp] theorem Session.acquired_hdr : se.acquired.hdr = se.hdr := rfl
@[simp] theorem Session.acquired_acq : se.acquired.acq = se.acq := rfl
@[simp] theorem Session.acquired_result : se.acquired.result = se.result := rfl
@[simp] theorem Session.acquired_st : se.acquired.st = .classifying := rfl
@[simp] theorem Session.acquired_fs : se.acquired.fs = se.fs := rfl
@[simp] theorem Session.acquired_bx : se.acquired.bx = se.bx := rfl
@[simp] theorem Session.acquired_termSeen : se.acquired.termSeen = se.termSeen := rfl
@[simp] theorem Session.acquired_ckOk : se.acquired.ckOk = se.ckOk := rfl
@[simp] theorem Session.acquired_hdrCkOk : se.acquired.hdrCkOk = se.hdrCkOk := rfl
@[simp] theorem Session.acquired_hdrNak : se.acquired.hdrNak = se.hdrNak := rfl
@[simp] theorem Session.acquired_skipWrite : se.acquired.skipWrite = se.skipWrite := rfl
@[simp] theorem Session.acquired_attempts : se.acquired.attempts = se.attempts + 1 := rfl
@[simp] theorem Session.acquired_nNoframe : se.acquired.nNoframe = se.nNoframe := rfl
@[simp] theorem Session.acquired_nCorrupt : se.acquired.nCorrupt = se.nCorrupt := rfl
@[simp] theorem Session.acquired_nNak : se.acquired.nNak = se.nNak := rfl
@[simp] theorem Session.acquired_nHdr : se.acquired.nHdr = se.nHdr := rfl
@[simp] theorem Session.acquired_txSel : se.acquired.txSel = se.txSel := rfl
@[simp] theorem Session.acquired_trace : se.acquired.trace = se.trace := rfl
@[simp] theorem Session.acquired_waiting : se.acquired.waiting = se.waiting := rfl

@[simp] theorem Session.startCall_kind (pkt : Bytes) : (se.startCall pkt).kind = se.kind := rfl
@[simp] theorem Session.startCall_addr (pkt : Bytes) : (se.startCall pkt).addr = se.addr := rfl
@[simp] theorem Session.startCall_linkId (pkt : Bytes) : (se.startCall pkt).linkId = se.linkId := rfl
@[simp] theorem Session.startCall_isOpen (pkt : Bytes) : (se.startCall pkt).isOpen = se.isOpen := rfl
@[simp] theorem Session.startCall_readCrcErrors (pkt : Bytes) : (se.startCall pkt).readCrcErrors = se.readCrcErrors := rfl
@[simp] theorem Session.startCall_writeCrcErrors (pkt : Bytes) : (se.startCall pkt).writeCrcErrors = se.writeCrcErrors := rfl
@[simp] theorem Session.startCall_txPkt (pkt : Bytes) : (se.startCall pkt).txPkt = pkt := rfl
@[simp] theorem Session.startCall_rxBuf (pkt : Bytes) : (se.startCall pkt).rxBuf = se.rxBuf := rfl
@[simp] theorem Session.startCall_hdr (pkt : Bytes) : (se.startCall pkt).hdr = se.hdr := rfl
@[simp] theorem Session.startCall_acq (pkt : Bytes) : (se.startCall pkt).acq = se.acq := rfl
@[simp] theorem Session.startCall_result (pkt : Bytes) : (se.startCall pkt).result = .pending := rfl
@[simp] theorem Session.startCall_st (pkt : Bytes) : (se.startCall pkt).st = .sending := rfl
@[simp] theorem Session.startCall_fs (pkt : Bytes) : (se.startCall pkt).fs = se.fs := rfl
@[simp] theorem Session.startCall_bx (pkt : Bytes) : (se.startCall pkt).bx = se.bx := rfl
@[simp] theorem Session.startCall_termSeen (pkt : Bytes) : (se.startCall pkt).termSeen = se.termSeen := rfl
@[simp] theorem Session.startCall_ckOk (pkt : Bytes) : (se.startCall pkt).ckOk = se.ckOk := rfl
@[simp] theorem Session.startCall_hdrCkOk (pkt : Bytes) : (se.startCall pkt).hdrCkOk = se.hdrCkOk := rfl
@[simp] theorem Session.startCall_hdrNak (pkt : Bytes) : (se.startCall pkt).hdrNak = se.hdrNak := rfl
@[simp] theorem Session.startCall_skipWrite (pkt : Bytes) : (se.startCall pkt).skipWrite = false := rfl
@[simp] theorem Session.startCall_attempts (pkt : Bytes) : (se.startCall pkt).attempts = 0 := rfl
@[simp] theorem Session.startCall_nNoframe (pkt : Bytes) : (se.startCall pkt).nNoframe = 0 := rfl
@[simp] theorem Session.startCall_nCorrupt (pkt : Bytes) : (se.startCall pkt).nCorrupt = 0 := rfl
@[simp] theorem Session.startCall_nNak (pkt : Bytes) : (se.startCall pkt).nNak = 0 := rfl
@[simp] theorem Session.startCall_nHdr (pkt : Bytes) : (se.startCall pkt).nHdr = 0 := rfl
@[simp] theorem Session.startCall_txSel (pkt : Bytes) : (se.startCall pkt).txSel = .original := rfl
@[simp] theorem Session.startCall_trace (pkt : Bytes) : (se.startCall pkt).trace = [] := rfl
@[simp] theorem Session.startCall_waiting (pkt : Bytes) : (se.startCall pkt).waiting = none := rfl

@[simp] theorem Session.opened_kind (kind : Kind) (addr : Byte) (link : LinkId) : (Session.opened kind addr link).kind = kind := rfl
@[simp] theorem Session.opened_addr (kind : Kind) (addr : Byte) (link : LinkId) : (Session.opened kind addr link).addr = addr := rfl
@[simp] theorem Session.opened_linkId (kind : Kind) (addr : Byte) (link : LinkId) : (Session.opened kind addr link).linkId = link := rfl
@[simp] theorem Session.opened_isOpen (kind : Kind) (addr : Byte) (link : LinkId) : (Session.opened kind addr link).isOpen = true := rfl
@[simp] theorem Session.opened_readCrcErrors (kind : Kind) (addr : Byte) (link : LinkId) : (Session.opened kind addr link).readCrcErrors = 0 := rfl
@[simp] theorem Session.opened_writeCrcErrors (kind : Kind) (addr : Byte) (link : LinkId) : (Session.opened kind addr link).writeCrcErrors = 0 := rfl
@[simp] theorem Session.opened_txPkt (kind : Kind) (addr : Byte) (link : LinkId) : (Session.opened kind addr link).txPkt = [] := rfl
@[simp] theorem Session.opened_rxBuf (kind : Kind) (addr : Byte) (link : LinkId) : (Session.opened kind addr link).rxBuf = [] := rfl
@[simp] theorem Session.opened_hdr (kind : Kind) (addr : Byte) (link : LinkId) : (Session.opened kind addr link).hdr = ⟨0x00, 0x00, 0x00⟩ := rfl
@[simp] theorem Session.opened_acq (kind : Kind) (addr : Byte) (link : LinkId) : (Session.opened kind addr link).acq = .noFrame := rfl
@[simp] theorem Session.opened_result (kind : Kind) (addr : Byte) (link : LinkId) : (Session.opened kind addr link).result = .pending := rfl
@[simp] theorem Session.opened_st (kind : Kind) (addr : Byte) (link : LinkId) : (Session.opened kind addr link).st = .idle := rfl
@[simp] theorem Session.opened_fs (kind : Kind) (addr : Byte) (link : LinkId) : (Session.opened kind addr link).fs = .idle := rfl
@[simp] theorem Session.opened_bx (kind : Kind) (addr : Byte) (link : LinkId) : (Session.opened kind addr link).bx = .idle := rfl
@[simp] theorem Session.opened_termSeen (kind : Kind) (addr : Byte) (link : LinkId) : (Session.opened kind addr link).termSeen = false := rfl
@[simp] theorem Session.opened_ckOk (kind : Kind) (addr : Byte) (link : LinkId) : (Session.opened kind addr link).ckOk = false := rfl
@[simp] theorem Session.opened_hdrCkOk (kind : Kind) (addr : Byte) (link : LinkId) : (Session.opened kind addr link).hdrCkOk = false := rfl
@[simp] theorem Session.opened_hdrNak (kind : Kind) (addr : Byte) (link : LinkId) : (Session.opened kind addr link).hdrNak = false := rfl
@[simp] theorem Session.opened_skipWrite (kind : Kind) (addr : Byte) (link : LinkId) : (Session.opened kind addr link).skipWrite = false := rfl
@[simp] theorem Session.opened_attempts (kind : Kind) (addr : Byte) (link : LinkId) : (Session.opened kind addr link).attempts = 0 := rfl
@[simp] theorem Session.opened_nNoframe (kind : Kind) (addr : Byte) (link : LinkId) : (Session.opened kind addr link).nNoframe = 0 := rfl
@[simp] theorem Session.opened_nCorrupt (kind : Kind) (addr : Byte) (link : LinkId) : (Session.opened kind addr link).nCorrupt = 0 := rfl
@[simp] theorem Session.opened_nNak (kind : Kind) (addr : Byte) (link : LinkId) : (Session.opened kind addr link).nNak = 0 := rfl
@[simp] theorem Session.opened_nHdr (kind : Kind) (addr : Byte) (link : LinkId) : (Session.opened kind addr link).nHdr = 0 := rfl
@[simp] theorem Session.opened_txSel (kind : Kind) (addr : Byte) (link : LinkId) : (Session.opened kind addr link).txSel = .original := rfl
@[simp] theorem Session.opened_trace (kind : Kind) (addr : Byte) (link : LinkId) : (Session.opened kind addr link).trace = [] := rfl
@[simp] theorem Session.opened_waiting (kind : Kind) (addr : Byte) (link : LinkId) : (Session.opened kind addr link).waiting = none := rfl

@[simp] theorem Session.closed_kind : se.closed.kind = se.kind := rfl
@[simp] theorem Session.closed_addr : se.closed.addr = se.addr := rfl
@[simp] theorem Session.closed_linkId : se.closed.linkId = se.linkId := rfl
@[simp] theorem Session.closed_isOpen : se.closed.isOpen = false := rfl
@[simp] theorem Session.closed_readCrcErrors : se.closed.readCrcErrors = 0 := rfl
@[simp] theorem Session.closed_writeCrcErrors : se.closed.writeCrcErrors = 0 := rfl
@[simp] theorem Session.closed_txPkt : se.closed.txPkt = [] := rfl
@[simp] theorem Session.closed_rxBuf : se.closed.rxBuf = [] := rfl
@[simp] theorem Session.closed_hdr : se.closed.hdr = ⟨0x00, 0x00, 0x00⟩ := rfl
@[simp] theorem Session.closed_acq : se.closed.acq = .noFrame := rfl
@[simp] theorem Session.closed_result : se.closed.result = .pending := rfl
@[simp] theorem Session.closed_st : se.closed.st = .idle := rfl
@[simp] theorem Session.closed_fs : se.closed.fs = .idle := rfl
@[simp] theorem Session.closed_bx : se.closed.bx = .idle := rfl
@[simp] theorem Session.closed_termSeen : se.closed.termSeen = false := rfl
@[simp] theorem Session.closed_ckOk : se.closed.ckOk = false := rfl
@[simp] theorem Session.closed_hdrCkOk : se.closed.hdrCkOk = false := rfl
@[simp] theorem Session.closed_hdrNak : se.closed.hdrNak = false := rfl
@[simp] theorem Session.closed_skipWrite : se.closed.skipWrite = false := rfl
@[simp] theorem Session.closed_attempts : se.closed.attempts = 0 := rfl
@[simp] theorem Session.closed_nNoframe : se.closed.nNoframe = 0 := rfl
@[simp] theorem Session.closed_nCorrupt : se.closed.nCorrupt = 0 := rfl
@[simp] theorem Session.closed_nNak : se.closed.nNak = 0 := rfl
@[simp] theorem Session.closed_nHdr : se.closed.nHdr = 0 := rfl
@[simp] theorem Session.closed_txSel : se.closed.txSel = .original := rfl
@[simp] theorem Session.closed_trace : se.closed.trace = [] := rfl
@[simp] theorem Session.closed_waiting : se.closed.waiting = none := rfl

end Sys2Proof.Machine
end

