-- ==== Sys2Proof/Laws/Ops.lean ====
section
/-!
SUPPORT. For each shared operation, once, everything it can do: the provers cite these and unfold nothing.
-/

namespace Sys2Proof.Machine

variable {s t : State}

/-! ### The step -/

/-- What a step that answers a next state did. -/
theorem step_next (h : step s = .next t) :
    (∃ i u, fetch s = .run i u ∧ exec i u = .next t) ∨
    (∃ ch bs u, fetch s = .illegal ch bs u ∧ execIllegal ch bs u = .next t) ∨ fetch s = .environment t ∨
    (∃ u, fetch s = .engine u ∧ t = u.internal) := by
  unfold step at h
  split at h
  · rename_i i u hf
    exact .inl ⟨i, u, hf, h⟩
  · rename_i ch bs u hf
    exact .inr (.inl ⟨ch, bs, u, hf, h⟩)
  · rename_i u hf
    cases h
    exact .inr (.inr (.inl hf))
  · rename_i u hf
    cases h
    exact .inr (.inr (.inr ⟨u, hf, rfl⟩))

/-- A unit is run, or met as bytes that are no legal unit, on the state it is fetched on. -/
theorem fetchUnit_cases (ch : Channel) (bs : Bytes) (s : State) :
    (∃ i, decode s.cfg ch bs = .ok i ∧ fetchUnit ch bs s = .run i s) ∨
    (∃ e, decode s.cfg ch bs = .error e ∧ fetchUnit ch bs s = .illegal ch bs s) := by
  unfold fetchUnit
  cases h : decode s.cfg ch bs
  · exact .inr ⟨_, rfl, rfl⟩
  · exact .inl ⟨_, rfl, rfl⟩

/-- A term runs, itself or as the bytes it is written as, on the state it is fetched on. -/
theorem fetchTerm_cases (i : Instr) (s : State) :
    ((i.wellFormed s.cfg = true ∨ encode s.cfg i = none) ∧ fetchTerm i s = .run i s) ∨
    (i.wellFormed s.cfg = false ∧ ∃ ch bs, encode s.cfg i = some (ch, bs) ∧ fetchTerm i s = fetchUnit ch bs s) := by
  unfold fetchTerm
  cases hw : i.wellFormed s.cfg
  · cases he : encode s.cfg i with
    | none => exact .inl ⟨.inr rfl, rfl⟩
    | some p => exact .inr ⟨rfl, p.1, p.2, rfl, rfl⟩
  · exact .inl ⟨.inl rfl, rfl⟩

/-- A term or a unit is fetched on the state it is given. -/
theorem fetchTerm_on (i : Instr) (s : State) :
    (∃ j, fetchTerm i s = .run j s) ∨ ∃ ch bs, fetchTerm i s = .illegal ch bs s := by
  obtain ⟨_, h⟩ | ⟨_, ch, bs, _, h⟩ := fetchTerm_cases i s
  · exact .inl ⟨i, h⟩
  · rw [h]
    obtain ⟨j, _, h'⟩ | ⟨_, _, h'⟩ := fetchUnit_cases ch bs s
    · exact .inl ⟨j, h'⟩
    · exact .inr ⟨ch, bs, h'⟩

/-- The state an instruction runs on is the state of the step with the session selected and the agenda's head
gone. -/
theorem fetch_run {i : Instr} (h : fetch s = .run i t) :
    ∃ sid rest, t = s.select sid rest := by
  unfold fetch at h
  split at h
  · cases h
  · rename_i sid j rest _
    obtain ⟨_, h'⟩ | ⟨_, _, h'⟩ := fetchTerm_on j (s.select sid rest) <;> rw [h'] at h <;> cases h
    exact ⟨_, _, rfl⟩
  · rename_i sid ch bs rest _
    obtain ⟨_, _, h'⟩ | ⟨_, _, h'⟩ := fetchUnit_cases ch bs (s.select sid rest) <;> rw [h'] at h <;> cases h
    exact ⟨_, _, rfl⟩
  all_goals cases h

/-- The state bytes that are no legal unit are met in. -/
theorem fetch_illegal {ch : Channel} {bs : Bytes} (h : fetch s = .illegal ch bs t) :
    ∃ sid rest, t = s.select sid rest := by
  unfold fetch at h
  split at h
  · cases h
  · rename_i sid j rest _
    obtain ⟨_, h'⟩ | ⟨_, _, h'⟩ := fetchTerm_on j (s.select sid rest) <;> rw [h'] at h <;> cases h
    exact ⟨_, _, rfl⟩
  · rename_i sid ch bs rest _
    obtain ⟨_, _, h'⟩ | ⟨_, _, h'⟩ := fetchUnit_cases ch bs (s.select sid rest) <;> rw [h'] at h <;> cases h
    exact ⟨_, _, rfl⟩
  all_goals cases h

/-- The state an internal transition runs on. -/
theorem fetch_engine (h : fetch s = .engine t) : t = s ∨ ∃ sid rest, t = s.select sid rest := by
  unfold fetch at h
  split at h
  · cases h
    exact .inl rfl
  · rename_i sid j rest _
    obtain ⟨_, h'⟩ | ⟨_, _, h'⟩ := fetchTerm_on j (s.select sid rest) <;> rw [h'] at h <;> cases h
  · rename_i sid ch bs rest _
    obtain ⟨_, _, h'⟩ | ⟨_, _, h'⟩ := fetchUnit_cases ch bs (s.select sid rest) <;> rw [h'] at h <;> cases h
  · cases h
  · cases h
  · cases h
    exact .inr ⟨_, _, rfl⟩

/-- What the environment can do. -/
theorem fetch_environment (h : fetch s = .environment t) :
    (∃ l bs rest, t = (s.select s.cur rest).arrive l bs) ∨
    (∃ l n rest, t = (s.select s.cur rest).transmit l n) := by
  unfold fetch at h
  split at h
  · cases h
  · rename_i sid j rest _
    obtain ⟨_, h'⟩ | ⟨_, _, h'⟩ := fetchTerm_on j (s.select sid rest) <;> rw [h'] at h <;> cases h
  · rename_i sid ch bs rest _
    obtain ⟨_, _, h'⟩ | ⟨_, _, h'⟩ := fetchUnit_cases ch bs (s.select sid rest) <;> rw [h'] at h <;> cases h
  · cases h
    exact .inl ⟨_, _, _, rfl⟩
  · cases h
    exact .inr ⟨_, _, _, rfl⟩
  · cases h

/-! ### Request packets -/

@[simp] theorem fieldBytes_value {α : Type} (form : α → Bytes) (v : α) : fieldBytes form (.value v) = form v := rfl
@[simp] theorem fieldBytes_text {α : Type} (form : α → Bytes) (f : Bytes) : fieldBytes form (.text f) = f := rfl

@[simp] theorem streamPayload_values (a : Byte) (n : Word16) (args : List Bytes) :
    streamPayload (.value a) (some (.value n)) args = requestPayload (some a) n args := rfl

@[simp] theorem busPayload_value (n : Word16) (args : List Bytes) :
    busPayload (.value n) args = requestPayload none n args := rfl

theorem numField_some {α : Type} {parse : Bytes → Option α} {f : Bytes} {v : α} (h : parse f = some v) :
    numField parse f = .value v := by
  simp [numField, h]

theorem numField_none {α : Type} {parse : Bytes → Option α} {f : Bytes} (h : parse f = none) :
    numField parse f = .text f := by
  simp [numField, h]

theorem splitFields_ne_nil (b : Bytes) : splitFields b ≠ [] := by
  cases b with
  | nil => simp [splitFields]
  | cons x xs =>
    unfold splitFields
    split
    · simp
    · split <;> simp

/-- Every valid packet on the bus is a `REQ_B` (30_encoding.md R115). -/
theorem decodeReq_bus {bs payload : Bytes} {ck : Word16} (h : validPacket bs = .ok (ck, payload)) :
    ∃ fn args, decodeReq .bus bs = .ok (.reqB ck fn args) := by
  unfold decodeReq
  rw [h]
  cases hf : splitFields payload with
  | nil => exact absurd hf (splitFields_ne_nil payload)
  | cons f args => exact ⟨_, _, by dsimp only; rw [hf]⟩

/-- Leader and separator select `REQ_S` (R115). -/
theorem decodeReq_stream {bs rest : Bytes} {ck : Word16} (h : validPacket bs = .ok (ck, 0x52 :: sep :: rest)) :
    ∃ addr fn args, decodeReq .stream bs = .ok (.reqS ck addr fn args) := by
  have hf : splitFields (0x52 :: sep :: rest) = [0x52] :: splitFields rest := by
    simp [splitFields, sep]
  unfold decodeReq
  rw [h]
  dsimp only
  rw [hf]
  cases hr : splitFields rest with
  | nil => exact absurd hr (splitFields_ne_nil rest)
  | cons a fs => cases fs <;> exact ⟨_, _, _, rfl⟩

/-! ### Guarded operations -/

theorem sendPacket_next {p : Bytes} (h : sendPacket p s = .next t) :
    s.sess.atStreamSend = true ∧ s.sess.txUnit = p ∧ t = s.sendStream := by
  unfold sendPacket at h
  split at h
  · rename_i hg
    cases h
    exact ⟨hg.1, hg.2, rfl⟩
  · cases h

theorem writePacket_next {p : Bytes} (h : writePacket p s = .next t) :
    s.sess.atBusWrite = true ∧ s.sess.txPkt = p ∧ t = s.writeRequest := by
  unfold writePacket at h
  split at h
  · rename_i hg
    cases h
    exact ⟨hg.1, hg.2, rfl⟩
  · cases h

theorem headerArrives_next {answer : Bytes} (h : headerArrives answer s = .next t) :
    s.sess.atHeader = true ∧ t = s.readHeader answer := by
  unfold headerArrives at h
  split at h
  · rename_i hg
    cases h
    exact ⟨hg, rfl⟩
  · cases h

theorem bodyArrives_next {answer : Bytes} (h : bodyArrives answer s = .next t) :
    s.sess.atBody = true ∧ t = s.readBody answer := by
  unfold bodyArrives at h
  split at h
  · rename_i hg
    cases h
    exact ⟨hg, rfl⟩
  · cases h

theorem execWireBBody_next {ck : Word16} {p : Bytes} (h : execWireBBody ck p s = .next t) :
    s.sess.atBody = true ∧ t = s.readBody (packetBytes ck p) :=
  bodyArrives_next h

theorem peerSends_next {bs : Bytes} (h : peerSends bs s = .next t) :
    s.sess.onStream = true ∧ t = s.arrive s.sess.linkId bs := by
  unfold peerSends at h
  split at h
  · rename_i hg
    cases h
    exact ⟨hg, rfl⟩
  · cases h

theorem sendFramed_next {bs : Bytes} (h : sendFramed bs s = .next t) :
    s.sess.atStreamSend = true ∧ frameS s.cfg s.sess.txUnit = bs ∧ t = s.sendStream := by
  unfold sendFramed at h
  split at h
  · rename_i hg
    cases h
    exact ⟨hg.1, hg.2, rfl⟩
  · cases h

theorem classifyBytes_next {bs : Bytes} (h : classifyBytes bs s = .next t) :
    s.sess.atClassify = true ∧ s.sess.acq = .frame bs ∧ t = s.classifyStep := by
  unfold classifyBytes at h
  split at h
  · rename_i hg
    cases h
    exact ⟨hg.1, hg.2, rfl⟩
  · cases h

/-- What bytes that are no legal unit can do: the answer of `VERIFY`, or the engine's own step on them. -/
theorem execIllegal_next {ch : Channel} {bs : Bytes} (h : execIllegal ch bs s = .next t) :
    t = (s.runVerify bs).setReply (.flag (verify bs)) ∨
    (s.sess.atStreamSend = true ∧ t = s.sendStream) ∨
    (s.sess.atBusWrite = true ∧ t = s.writeRequest) ∨
    (s.sess.onStream = true ∧ t = s.arrive s.sess.linkId bs) ∨
    (s.sess.atHeader = true ∧ t = s.readHeader bs) ∨
    (s.sess.atBody = true ∧ t = s.readBody bs) ∨
    (s.sess.atClassify = true ∧ t = s.classifyStep) := by
  unfold execIllegal at h
  split at h
  · cases h
    exact .inl rfl
  · have := sendFramed_next h
    exact .inr (.inl ⟨this.1, this.2.2⟩)
  · exact .inr (.inr (.inr (.inl (peerSends_next h))))
  · have := writePacket_next h
    exact .inr (.inr (.inl ⟨this.1, this.2.2⟩))
  · exact .inr (.inr (.inr (.inr (.inl (headerArrives_next h)))))
  · exact .inr (.inr (.inr (.inr (.inr (.inl (bodyArrives_next h))))))
  · have := sendPacket_next h
    exact .inr (.inl ⟨this.1, this.2.2⟩)
  · have := writePacket_next h
    exact .inr (.inr (.inl ⟨this.1, this.2.2⟩))
  · have := classifyBytes_next h
    exact .inr (.inr (.inr (.inr (.inr (.inr ⟨this.1, this.2.2⟩)))))

theorem respond_next {ck : Word16} {p : Bytes} {cls : Session → Session} (h : respond ck p cls s = .next t) :
    s.sess.atClassify = true ∧ s.sess.acq = .frame (packetBytes ck p) ∧ verify (packetBytes ck p) = true ∧
    t = (s.runVerify (packetBytes ck p)).leaveClassifying (cls { s.sess with ckOk := true }) := by
  unfold respond at h
  dsimp only at h
  split at h
  · rename_i hg
    cases h
    exact ⟨hg.1, hg.2.1, hg.2.2, rfl⟩
  · cases h

theorem execAcquireStream_next {e : StreamEvent} (h : execAcquireStream e s = .next t) :
    (s.sess.onStream = true ∧ t = s.onEvent e) ∨ (s.sess.onStream = false ∧ t = s) := by
  unfold execAcquireStream at h
  split at h
  · rename_i hg
    cases h
    exact .inl ⟨hg, rfl⟩
  · rename_i hg
    cases h
    exact .inr ⟨by simpa using hg, rfl⟩

theorem execFlushRecover_next (h : execFlushRecover s = .next t) :
    s.sess.onStream = true ∧ (s.sess.fs = .ck0 ∨ s.sess.fs = .ck1 ∨ s.sess.fs = .body) ∧
    t = s.flushRecover := by
  unfold execFlushRecover at h
  dsimp only at h
  split at h
  · rename_i hg
    cases h
    exact ⟨hg.1, hg.2, rfl⟩
  · cases h

theorem execBusExchange_next {r : Bytes} (h : execBusExchange r s = .next t) :
    s.sess.onBus = true ∧
    ((s.sess.bx = .idle ∧ s.sess.st = .sending ∧ t = s.setSess s.sess.startExchange) ∨
     (s.sess.bx = .write ∧ s.sess.st = .sending ∧ t = s.writeRequest) ∨
     (s.sess.bx = .hdr ∧ s.sess.st = .awaiting ∧ t = s.readHeader r) ∨
     (s.sess.bx = .body ∧ s.sess.st = .awaiting ∧ t = s.readBody r)) := by
  unfold execBusExchange at h
  dsimp only at h
  split at h
  · rename_i hg
    refine ⟨hg, ?_⟩
    split at h
    · rename_i h₁ h₂
      cases h
      exact .inl ⟨h₁, h₂, rfl⟩
    · rename_i h₁ h₂
      cases h
      exact .inr (.inl ⟨h₁, h₂, rfl⟩)
    · rename_i h₁ h₂
      cases h
      exact .inr (.inr (.inl ⟨h₁, h₂, rfl⟩))
    · rename_i h₁ h₂
      cases h
      exact .inr (.inr (.inr ⟨h₁, h₂, rfl⟩))
    · cases h
  · cases h

theorem execHdrCheck_next (h : execHdrCheck s = .next t) :
    s.sess.atHeader = true ∧
    t = (s.setSess (s.sess.checkHeader s.cfg)).setReply (.header (headerResult s.cfg s.sess.hdr)) := by
  unfold execHdrCheck at h
  dsimp only at h
  split at h
  · rename_i hg
    cases h
    exact ⟨hg, rfl⟩
  · cases h

theorem execClassify_next (h : execClassify s = .next t) :
    s.sess.atClassify = true ∧ t = s.classifyStep.setReply (classified (s.sess.classify s.cfg)) := by
  unfold execClassify at h
  split at h
  · rename_i hg
    cases h
    exact ⟨hg, rfl⟩
  · cases h

/-- What the parser can do: the rule's result, or a free one where no rule states it. -/
theorem execParseS_next {p : Bytes} (h : execParseS p s = .next t) :
    (p.head? = some statusS ∧ t = s.setReply (.returned (parseS p))) ∨
    (p.head? ≠ some statusS ∧ t = s.setReply (.returned (Config.freeParsed p))) := by
  unfold execParseS at h
  split at h
  · rename_i hg
    cases h
    exact .inl ⟨hg, rfl⟩
  · rename_i hg
    cases h
    exact .inr ⟨hg, rfl⟩

theorem execParseF_next {p : Bytes} (h : execParseF p s = .next t) :
    (p.head? = some statusF ∧ t = s.setReply (.bytes (parseF p))) ∨
    (p.head? ≠ some statusF ∧ t = s.setReply (.bytes (Config.freeMessage p))) := by
  unfold execParseF at h
  split at h
  · rename_i hg
    cases h
    exact .inl ⟨hg, rfl⟩
  · rename_i hg
    cases h
    exact .inr ⟨hg, rfl⟩

/-- A session with nothing against a host operation is open, idle and waits for nothing. -/
theorem Session.refusal_none {se : Session} :
    se.refusal = none ↔ se.isOpen = true ∧ se.st = .idle ∧ se.waiting = none := by
  unfold Session.refusal
  split
  · simp_all
  · split
    · simp_all
    · simp_all

theorem readRegister_next {f : Session → Reply} (h : readRegister f s = .next t) :
    s.sess.refusal = none ∧ t = s.setReply (f s.sess) := by
  unfold readRegister at h
  split at h
  · cases h
  · rename_i hg
    cases h
    exact ⟨hg, rfl⟩

theorem execCloseSession_next (h : execCloseSession s = .next t) :
    s.sess.refusal = none ∧
    t = ((s.leaveLink s.sess.linkId).setSess s.sess.closed).setReply .done := by
  unfold execCloseSession at h
  dsimp only at h
  split at h
  · cases h
  · rename_i hg
    cases h
    exact ⟨hg, rfl⟩

theorem execCall_next {fn : Word16} {args : List Value} (h : execCall fn args s = .next t) :
    s.sess.refusal = none ∧
    ((s.lockOf s.sess.linkId = none ∧ t = s.startCall fn args) ∨
     (s.lockOf s.sess.linkId ≠ none ∧ t = s.waitCall fn args)) := by
  unfold execCall at h
  dsimp only at h
  split at h
  · cases h
  · rename_i hg
    refine ⟨hg, ?_⟩
    split at h
    · rename_i hl
      cases h
      exact .inl ⟨hl, rfl⟩
    · rename_i hl
      cases h
      exact .inr ⟨hl, rfl⟩

theorem execOpenSession_next {k : Kind} {a : Byte} {l : LinkId} (h : execOpenSession k a l s = .next t) :
    s.sess.isOpen = false ∧
    ((∃ why, t = s.setReply (.openError why a)) ∨
     (a.toNat ≤ addrMax ∧ s.regEntry l = none ∧
       t = (((s.setReg l ⟨k, 1⟩).freeLock l).setSess (Session.opened k a l)).setReply .done) ∨
     (a.toNat ≤ addrMax ∧ ∃ e, s.regEntry l = some e ∧ e.kind = k ∧
       t = ((s.setReg l ⟨e.kind, e.users + 1⟩).setSess (Session.opened k a l)).setReply .done)) := by
  unfold execOpenSession at h
  dsimp only at h
  split at h
  · cases h
  · rename_i ho
    refine ⟨by simpa using ho, ?_⟩
    split at h
    · cases h
      exact .inl ⟨_, rfl⟩
    · rename_i ha
      have ha : a.toNat ≤ addrMax := Nat.not_lt.mp ha
      split at h
      · rename_i hr
        cases h
        exact .inr (.inl ⟨ha, hr, rfl⟩)
      · rename_i e hr
        split at h
        · rename_i hk
          cases h
          exact .inr (.inr ⟨ha, e, hr, hk, rfl⟩)
        · cases h
          exact .inl ⟨_, rfl⟩

/-! ### The retry engine -/

/-- A recoverable failure with budget left. -/
theorem Session.retryOrFail_budget {c : Config} {se : Session} (h : budgetLeft c se = true) (cls : TraceClass)
    (a : TraceAction) (prepare : Session → Session) (tag : ErrTag) (d : Bytes) :
    se.retryOrFail c cls a prepare tag d = { (prepare se).record cls a with st := .retry } := by
  simp [Session.retryOrFail, h]

/-- A recoverable failure with the budget used up. -/
theorem Session.retryOrFail_exhausted {c : Config} {se : Session} (h : budgetLeft c se = false)
    (cls : TraceClass) (a : TraceAction) (prepare : Session → Session) (tag : ErrTag) (d : Bytes) :
    se.retryOrFail c cls a prepare tag d = se.raiseError cls tag d := by
  simp [Session.retryOrFail, h]

theorem State.leaveClassifying_goesOn {se : Session} (h : se.st ≠ .fatal) (s : State) :
    s.leaveClassifying se = s.setSess se := by
  simp [State.leaveClassifying, h]

theorem State.leaveClassifying_raised {se : Session} (h : se.st = .fatal) (s : State) :
    s.leaveClassifying se = s.endCall se := by
  simp [State.leaveClassifying, h]

/-- What the classifier does, by the acquisition's result. -/
theorem State.classifyStep_cases (s : State) :
    (s.sess.acq = .noFrame ∧ s.classifyStep = s.leaveClassifying (s.sess.class1 s.cfg)) ∨
    (s.sess.acq = .hdrBad ∧ s.classifyStep = s.leaveClassifying (s.sess.classHdrBad s.cfg)) ∨
    (s.sess.acq = .hdrNak ∧ s.classifyStep = s.leaveClassifying (s.sess.classHdrNak s.cfg)) ∨
    (∃ p, s.sess.acq = .frame p ∧
      s.classifyStep = (s.runVerify p).leaveClassifying (s.sess.classFrame s.cfg p)) := by
  unfold State.classifyStep State.checkAcquired Session.classify
  cases h : s.sess.acq <;> simp

/-- Where the classifier leaves `st`: a retry, a success with its value, or `FATAL` with an error of the session's
address and its record (60_exceptions.md R336). -/
def Session.Outcome (se t : Session) : Prop :=
  t.st = .retry ∨ (t.st = .success ∧ ∃ v, t.result = .value v) ∨
    (t.st = .fatal ∧ ∃ tag d cls, t.result = .err tag se.addr d ∧ t.trace = se.trace ++ [⟨se.attempts, cls, .none⟩])

theorem Session.raiseError_outcome (se : Session) (cls : TraceClass) (tag : ErrTag) (d : Bytes) :
    Session.Outcome se (se.raiseError cls tag d) :=
  .inr (.inr ⟨rfl, tag, d, cls, rfl, rfl⟩)

theorem Session.retryOrFail_outcome (c : Config) (se : Session) (cls : TraceClass) (a : TraceAction)
    (prepare : Session → Session) (tag : ErrTag) (d : Bytes) :
    Session.Outcome se (se.retryOrFail c cls a prepare tag d) := by
  cases h : budgetLeft c se
  · rw [Session.retryOrFail_exhausted h]
    exact Session.raiseError_outcome ..
  · rw [Session.retryOrFail_budget h]
    exact .inl rfl

theorem Session.classStatus_outcome (c : Config) (payload : Bytes) (se : Session) :
    Session.Outcome se (se.classStatus c payload) := by
  unfold Session.classStatus
  split
  · exact Session.retryOrFail_outcome ..
  · split
    · exact Session.retryOrFail_outcome ..
    · split
      · exact .inr (.inl ⟨rfl, _, rfl⟩)
      · split <;> exact Session.raiseError_outcome ..

theorem Session.classify_outcome (c : Config) (se : Session) : Session.Outcome se (se.classify c) := by
  unfold Session.classify
  split
  · exact Session.retryOrFail_outcome ..
  · exact Session.retryOrFail_outcome ..
  · exact Session.retryOrFail_outcome ..
  · unfold Session.classFrame
    dsimp only
    split
    · exact Session.classStatus_outcome ..
    · exact Session.retryOrFail_outcome ..

/-- The classifier leaves the session on its link. -/
@[simp] theorem Session.classify_linkId (c : Config) (se : Session) : (se.classify c).linkId = se.linkId := by
  unfold Session.classify Session.classFrame Session.classStatus Session.class1 Session.class2 Session.class3
    Session.class4 Session.class5 Session.class6 Session.classHdrBad Session.classHdrNak Session.retryOrFail
    Session.prepareHeader Session.prepareClass2
  dsimp only
  repeat' split
  all_goals rfl

/-- The classifier's checksum changes at most `crc`. -/
theorem State.checkAcquired_eq (s : State) : s.checkAcquired = s.setCrc s.checkAcquired.crc := by
  have h : ∀ p, s.runVerify p = s.setCrc (s.runVerify p).crc := by
    intro p
    unfold State.runVerify
    split <;> rfl
  unfold State.checkAcquired
  split
  · rfl
  · rfl
  · rfl
  · exact h _

/-- What an internal transition can be. -/
theorem State.internal_cases (s : State) :
    s.internal = s ∨
    (s.sess.isOpen = true ∧
      ((s.sess.st = .idle ∧ ∃ fn args, s.sess.waiting = some (fn, args) ∧
          s.lockOf s.sess.linkId = none ∧ s.internal = s.startCall fn args) ∨
       (s.sess.st = .sending ∧ s.internal = s.sendStep) ∨
       (s.sess.st = .awaiting ∧ s.sess.acquirerIdle = true ∧ s.internal = s.setSess s.sess.acquired) ∨
       (s.sess.st = .classifying ∧ s.internal = s.classifyStep) ∨
       (s.sess.st = .retry ∧ s.internal = s.setSess { s.sess with st := .sending }) ∨
       ((s.sess.st = .success ∨ s.sess.st = .fatal) ∧ s.internal = s.endCall s.sess))) := by
  unfold State.internal
  dsimp only
  cases ho : s.sess.isOpen
  · simp
  · cases hs : s.sess.st
    · rcases hw : s.sess.waiting with _ | ⟨fn, args⟩
      · simp
      · by_cases hl : s.lockOf s.sess.linkId = none
        · simp [hl]
        · simp [hl]
    · simp
    · cases ha : s.sess.acquirerIdle <;> simp
    · simp
    · simp
    · simp
    · simp

end Sys2Proof.Machine
end

