-- ==== Sys2Proof/Laws/PerInstr.lean ====
section
/-!
SUPPORT. Statements for all instructions, one lemma per constructor. WireForm: the 13 wire rows have an encoding on
every instance and the 27 operations have none (30_encoding.md R115, R116); whether a row has one does not depend on
its fields.
-/

namespace Sys2Proof.Laws.WireForm

/-- The row is one of the wire formats. -/
def isWireRow : Instr → Bool
  | .pkt _ _ => true
  | .wireS _ _ _ => true
  | .wireBReq _ _ => true
  | .busHdr _ _ _ => true
  | .busHdrNak _ _ _ => true
  | .wireBBody _ _ => true
  | .reqS _ _ _ _ => true
  | .reqB _ _ _ => true
  | .respS _ _ => true
  | .respF _ _ => true
  | .respE _ _ => true
  | .respReserved _ _ _ => true
  | .rqResend => true
  | .crc16Init _ => false
  | .crc16Step _ => false
  | .crc16 _ _ => false
  | .mkpacket _ => false
  | .verify _ => false
  | .fmtArg _ => false
  | .fmtHex _ => false
  | .fmtHex2 _ => false
  | .encodeRequest _ _ _ => false
  | .frameS _ => false
  | .decodeRequest _ _ => false
  | .decodeResponse _ => false
  | .renderForLog _ => false
  | .acquireStream _ => false
  | .flushRecover => false
  | .busExchange _ => false
  | .hdrCheck => false
  | .classify => false
  | .parseS _ => false
  | .parseF _ => false
  | .openSession _ _ _ => false
  | .closeSession => false
  | .call _ _ => false
  | .rdCnt _ => false
  | .rdTrace => false
  | .rdDiag => false
  | .reset => false

/-- On every instance the instruction has an encoding exactly if it is a wire row. -/
def Statement (i : Instr) : Prop :=
  ∀ c : Config, (encode c i).isSome = isWireRow i

theorem pkt : ∀ a b, Statement (.pkt a b) := by intros; intro c; rfl
theorem wireS : ∀ a b c, Statement (.wireS a b c) := by intros; intro c; rfl
theorem wireBReq : ∀ a b, Statement (.wireBReq a b) := by intros; intro c; rfl
theorem busHdr : ∀ a b c, Statement (.busHdr a b c) := by intros; intro c; rfl
theorem busHdrNak : ∀ a b c, Statement (.busHdrNak a b c) := by intros; intro c; rfl
theorem wireBBody : ∀ a b, Statement (.wireBBody a b) := by intros; intro c; rfl
theorem reqS : ∀ a b c d, Statement (.reqS a b c d) := by intros; intro c; rfl
theorem reqB : ∀ a b c, Statement (.reqB a b c) := by intros; intro c; rfl
theorem respS : ∀ a b, Statement (.respS a b) := by intros; intro c; rfl
theorem respF : ∀ a b, Statement (.respF a b) := by intros; intro c; rfl
theorem respE : ∀ a b, Statement (.respE a b) := by intros; intro c; rfl
theorem respReserved : ∀ a b c, Statement (.respReserved a b c) := by intros; intro c; rfl
theorem rqResend : Statement .rqResend := by intro c; rfl
theorem crc16Init : ∀ a, Statement (.crc16Init a) := by intros; intro c; rfl
theorem crc16Step : ∀ a, Statement (.crc16Step a) := by intros; intro c; rfl
theorem crc16 : ∀ a b, Statement (.crc16 a b) := by intros; intro c; rfl
theorem mkpacket : ∀ a, Statement (.mkpacket a) := by intros; intro c; rfl
theorem verify : ∀ a, Statement (.verify a) := by intros; intro c; rfl
theorem fmtArg : ∀ a, Statement (.fmtArg a) := by intros; intro c; rfl
theorem fmtHex : ∀ a, Statement (.fmtHex a) := by intros; intro c; rfl
theorem fmtHex2 : ∀ a, Statement (.fmtHex2 a) := by intros; intro c; rfl
theorem encodeRequest : ∀ a b c, Statement (.encodeRequest a b c) := by intros; intro c; rfl
theorem frameS : ∀ a, Statement (.frameS a) := by intros; intro c; rfl
theorem decodeRequest : ∀ a b, Statement (.decodeRequest a b) := by intros; intro c; rfl
theorem decodeResponse : ∀ a, Statement (.decodeResponse a) := by intros; intro c; rfl
theorem renderForLog : ∀ a, Statement (.renderForLog a) := by intros; intro c; rfl
theorem acquireStream : ∀ a, Statement (.acquireStream a) := by intros; intro c; rfl
theorem flushRecover : Statement .flushRecover := by intro c; rfl
theorem busExchange : ∀ a, Statement (.busExchange a) := by intros; intro c; rfl
theorem hdrCheck : Statement .hdrCheck := by intro c; rfl
theorem classify : Statement .classify := by intro c; rfl
theorem parseS : ∀ a, Statement (.parseS a) := by intros; intro c; rfl
theorem parseF : ∀ a, Statement (.parseF a) := by intros; intro c; rfl
theorem openSession : ∀ a b c, Statement (.openSession a b c) := by intros; intro c; rfl
theorem closeSession : Statement .closeSession := by intro c; rfl
theorem call : ∀ a b, Statement (.call a b) := by intros; intro c; rfl
theorem rdCnt : ∀ a, Statement (.rdCnt a) := by intros; intro c; rfl
theorem rdTrace : Statement .rdTrace := by intro c; rfl
theorem rdDiag : Statement .rdDiag := by intro c; rfl
theorem reset : Statement .reset := by intro c; rfl

end Sys2Proof.Laws.WireForm
end

