-- ==== Sys2Proof/Tests/Slice0.lean ====
section
/-!
SUPPORT. Tests. Expected values are the spec's: the vectors S, V and P of 95_test_vectors.md, named in each test.
First the checks of WellFormed, then the decoder on words written out from the spec's formats, then one step of each
operation, then for each statement with hypotheses a concrete state and operands that meet them.
-/

namespace Sys2Proof.Tests

open Sys2Proof Sys2Proof.Machine

set_option Elab.async false

/-! ### WellFormed: for each check an ill-formed term that it refuses -/

theorem test_wf_wireS_term_inside : Instr.wellFormed Config.default (.wireS .toEngine 0x6E66 [0x53, 0x1E, 0x61, 0x04, 0x62]) = false := by
  decide +kernel

theorem test_wf_busHdr_nak_status : Instr.wellFormed Config.default (.busHdr 0x45 0x00 0xBA) = false := by
  decide +kernel

theorem test_wf_busHdrNak_other_status : Instr.wellFormed Config.default (.busHdrNak 0x00 0x05 0xFA) = false := by
  decide +kernel

theorem test_wf_wireBBody_bound :
    Instr.wellFormed Config.default (.wireBBody 0x0000 (List.replicate 254 0x00)) = false ∧
    Instr.wellFormed Config.default (.wireBBody 0x0000 (List.replicate 253 0x00)) = true := by
  decide +kernel

theorem test_wf_reqS_separator_in_field :
    Instr.wellFormed Config.default (.reqS (crc16 (requestPayload (some 0x00) 0x0000 [[0x61, 0x1E, 0x62]]) seed0)
      (.value 0x00)
      (some (.value 0x0000)) [[0x61, 0x1E, 0x62]]) = false := by
  decide +kernel

theorem test_wf_reqS_checksum : Instr.wellFormed Config.default (.reqS 0xCE45 (.value 0x00) (some (.value 0x0000)) []) = false := by
  decide +kernel

/-- A field that is a number is no text, and arguments need a function number field. -/
theorem test_wf_reqS_fields :
    Instr.wellFormed Config.default (.reqS 0xCF45 (.text [0x30, 0x30]) (some (.value 0x0000)) []) = false ∧
    Instr.wellFormed Config.default (.reqS 0xCF45 (.value 0x00) (some (.text [0x30])) []) = false ∧
    Instr.wellFormed Config.default (.reqS 0xCF45 (.value 0x00) none [[0x30]]) = false ∧
    Instr.wellFormed Config.default (.reqS 0xCF45 (.value 0x00) (some (.value 0x0000)) []) = true := by
  decide +kernel

theorem test_wf_reqB_fields :
    Instr.wellFormed Config.default (.reqB 0x3653 (.text [0x30]) []) = false ∧
    Instr.wellFormed Config.default (.reqB 0x0000 (.text []) []) = false ∧
    Instr.wellFormed Config.default (.reqB 0x6156 (.text [0x53]) [[0x37]]) = true := by
  decide +kernel

theorem test_wf_reqB_separator_in_field :
    Instr.wellFormed Config.default (.reqB (crc16 (requestPayload none 0x0000 [[0x1E]]) seed0) (.value 0x0000) [[0x1E]]) = false := by
  decide +kernel

theorem test_wf_reqB_checksum : Instr.wellFormed Config.default (.reqB 0xF8A7 (.value 0x002A) [[0x37], [0x30]]) = false := by
  decide +kernel

theorem test_wf_resp_checksum :
    Instr.wellFormed Config.default (.respS 0x6156 [0x1E, 0x33]) = false ∧
    Instr.wellFormed Config.default (.respF 0x2CF2 [0x1E, 0x62]) = false ∧
    Instr.wellFormed Config.default (.respE 0x1860 []) = false ∧
    Instr.wellFormed Config.default (.respReserved 0xF160 0x58 [0x1E, 0x31]) = false := by
  decide +kernel

theorem test_wf_respReserved_status : Instr.wellFormed Config.default (.respReserved 0x6156 0x53 [0x1E, 0x37]) = false := by
  decide +kernel

/-! ### Decoding: each row's word from the formats of 30_encoding.md, with the bytes of the vectors named -/

/-- V3. -/
theorem test_decode_pkt : decode Config.default .packet [0x18, 0x61, 0x45] = .ok (.pkt 0x1861 [0x45]) := by decide +kernel

/-- V33: both checksum bytes are read before the terminator is looked for. -/
theorem test_decode_wireS :
    decode Config.default (.streamWire .toEngine) [0x04, 0x5E, 0x53, 0x1E, 0x33, 0x37, 0x37, 0x04]
      = .ok (.wireS .toEngine 0x045E [0x53, 0x1E, 0x33, 0x37, 0x37]) ∧
    decode Config.default (.streamWire .toEngine) [0x6E, 0x66, 0x53, 0x1E, 0x61, 0x04, 0x62, 0x04] = .error .termInside ∧
    decode Config.default (.streamWire .toEngine) [0x61, 0x56, 0x53] = .error .notTerminated := by
  decide +kernel

/-- V46. -/
theorem test_decode_wireBReq :
    decode Config.default .busWrite [0xF8, 0xA6, 0x32, 0x61, 0x1E, 0x37, 0x1E, 0x30]
      = .ok (.wireBReq 0xF8A6 [0x32, 0x61, 0x1E, 0x37, 0x1E, 0x30]) := by
  decide +kernel

/-- V24, V88. -/
theorem test_decode_headers :
    decode Config.default .busHeader [0x01, 0x0D, 0xF1] = .ok (.busHdr 0x01 0x0D 0xF1) ∧
    decode Config.default .busHeader [0x45, 0x00, 0xBA] = .ok (.busHdrNak 0x45 0x00 0xBA) ∧
    decode Config.default .busHeader [0x00, 0x06] = .error .tooShort ∧
    decode Config.default .busHeader [0x00, 0x06, 0xF9, 0x00] = .error .tooLong := by
  decide +kernel

/-- V86. -/
theorem test_decode_wireBBody :
    decode Config.default .busBody [0x69, 0xC5, 0x53, 0x1E, 0x34, 0x32] = .ok (.wireBBody 0x69C5 [0x53, 0x1E, 0x34, 0x32]) := by
  decide +kernel

/-- V50; V54; V55. -/
theorem test_decode_reqS :
    decode Config.default .streamRequest [0x3C, 0x17, 0x52, 0x1E, 0x30, 0x61, 0x1E, 0x66, 0x66, 0x1E, 0x31, 0x33, 0x1E, 0x31]
      = .ok (.reqS 0x3C17 (.value 0x0A) (some (.value 0x00FF)) [[0x31, 0x33], [0x31]]) ∧
    decode Config.default .streamRequest [0xCE, 0x45, 0x52, 0x1E, 0x30, 0x30, 0x1E, 0x30] = .error .badChecksum ∧
    decode Config.default .streamRequest [0x61, 0x56, 0x53, 0x1E, 0x37] = .error .notRequest := by
  decide +kernel

/-- R115: leader and separator select `REQ_S`, and every valid packet on the bus is `REQ_B` (V20's `"S\x1e7"`), whatever
its fields; a byte above `0x7F` stands in a field as it is (R166). -/
theorem test_decode_requests_by_leader_alone :
    decode Config.default .streamRequest (mkPacket [0x52, 0x1E]) = .ok (.reqS (crc16 [0x52, 0x1E] seed0) (.text []) none []) ∧
    decode Config.default .streamRequest (mkPacket [0x52, 0x1E, 0x30, 0x41, 0x1E, 0x30, 0x31, 0x1E, 0x80])
      = .ok (.reqS (crc16 [0x52, 0x1E, 0x30, 0x41, 0x1E, 0x30, 0x31, 0x1E, 0x80] seed0) (.text [0x30, 0x41])
          (some (.text [0x30, 0x31])) [[0x80]]) ∧
    decode Config.default .busRequest [0x61, 0x56, 0x53, 0x1E, 0x37] = .ok (.reqB 0x6156 (.text [0x53]) [[0x37]]) := by
  decide +kernel

/-- V46. -/
theorem test_decode_reqB :
    decode Config.default .busRequest [0xCB, 0x92, 0x66, 0x66, 0x1E, 0x31, 0x33, 0x1E, 0x31]
      = .ok (.reqB 0xCB92 (.value 0x00FF) [[0x31, 0x33], [0x31]]) := by
  decide +kernel

/-- V20, V79. -/
theorem test_decode_responses :
    decode Config.default .response [0xA8, 0x13, 0x53, 0x1E] = .ok (.respS 0xA813 [0x1E]) ∧
    decode Config.default .response [0x2C, 0xF3, 0x46, 0x1E, 0x62, 0x61, 0x64, 0x20, 0x70, 0x69, 0x6E]
      = .ok (.respF 0x2CF3 [0x1E, 0x62, 0x61, 0x64, 0x20, 0x70, 0x69, 0x6E]) ∧
    decode Config.default .response [0x01, 0xC6, 0x45, 0x1E] = .ok (.respE 0x01C6 [0x1E]) ∧
    decode Config.default .response [0xF1, 0x61, 0x58, 0x1E, 0x31] = .ok (.respReserved 0xF161 0x58 [0x1E, 0x31]) ∧
    decode Config.default .response [0x00, 0x00, 0x00] = .ok (.respReserved 0x0000 0x00 []) := by
  decide +kernel

/-- V22. -/
theorem test_decode_refuses_invalid_packets :
    decode Config.default .response [] = .error .tooShort ∧ decode Config.default .response [0x18, 0x61] = .error .tooShort ∧
    decode Config.default .response [0xA9, 0x13, 0x53, 0x1E] = .error .badChecksum ∧
    decode Config.default .response [0xFF, 0xFF, 0xFF] = .error .badChecksum := by
  decide +kernel

/-- The words of the opcode table's rows `RQ_RESEND`, `BUS_HDR`, `BUS_HDR_NAK` and `RESP_RESERVED`, byte 0 in bits 7 to 0. -/
theorem test_decode_rqResend :
    decode Config.default .streamRequest [0x18, 0x61, 0x45] = .ok .rqResend ∧ decodeTableWord 24 0x456118 = some .rqResend ∧
    decodeTableWord 24 0xFF0000 = some (.busHdr 0x00 0x00 0xFF) ∧
    decodeTableWord 24 0x000000 = some (.busHdr 0x00 0x00 0x00) ∧
    decodeTableWord 24 0x000045 = some (.busHdrNak 0x45 0x00 0x00) ∧
    decodeTableWord 16 0x0000 = some (.respReserved 0x0000 0x00 []) := by
  decide +kernel

/-! ### States -/

/-- A session open on link 7 at address `0x12`, in the second attempt of a call. -/
def session (kind : Kind) (st : RetryState) (attempts : BitVec 4 := 1) : Session :=
  { Session.reset with
    kind := kind, addr := 0x12, linkId := 7, isOpen := true, st := st, attempts := attempts
    txPkt := [0xF8, 0xA6, 0x32, 0x61, 0x1E, 0x37, 0x1E, 0x30] }

/-- After reset but for the registers of session 0. -/
def holding (se : Session) : State := State.reset.setSess se

/-- A stream session that awaits a frame, with bytes in its link's receive queue. -/
def reading (fs : SyncState) (buf queue : Bytes) : State :=
  (holding { session .stream .awaiting with fs := fs, rxBuf := buf }).setRx 7 queue

/-- A bus session in its exchange. -/
def exchanging (st : RetryState) (bx : BusState) : State :=
  holding { session .bus st with bx := bx }

/-- A session that classifies a frame. -/
def classifying (kind : Kind) (acq : Acquired) (attempts : BitVec 4 := 1) : State :=
  holding { session kind .classifying attempts with acq := acq }

/-- Link 7 is registered with one user, session 0, open and idle. -/
def idle (kind : Kind) (users : Nat := 1) : State :=
  (holding { session kind .idle with attempts := 0 }).setReg 7 ⟨kind, users⟩

/-- A result is the next state `t`. -/
def nextIs (r : Result) (t : State) : Bool :=
  match r with
  | .next u => decide (u = t)
  | _ => false

/-- A result is the fault `f`. -/
def faultIs (r : Result) (f : Fault) : Bool :=
  match r with
  | .fault g => decide (g = f)
  | _ => false

/-- A result is the refusal `f`. -/
def refusedIs (r : Result) (f : Refusal) : Bool :=
  match r with
  | .refused g => decide (g = f)
  | _ => false

/-- What a result gives its caller. -/
def replyIs (r : Result) (v : Reply) : Bool :=
  match r with
  | .next t => decide (t.reply = v)
  | _ => false

/-- A result is a next state of whose current session something holds. -/
def nextSess (r : Result) (p : Session → Bool) : Bool :=
  match r with
  | .next t => p t.sess
  | _ => false

/-- A table word is run by the next step: the control packet, and a header, are not due after reset. -/
theorem test_fetch_word :
    faultIs (step (State.reset.withFetchWord 24 0x456118)) .sendNotDue = true ∧
    faultIs (step (State.reset.withFetchWord 24 0xFF0000)) .noExchange = true := by
  decide +kernel

/-- R114 (b), R115: an acquired frame that is no valid packet (V80: its checksum is wrong) is class 2, with the control
packet to send. -/
theorem test_illegal_response_is_class_two :
    nextSess (step ((classifying .stream (.frame [0x2C, 0xF2, 0x46])).withUnit .response [0x2C, 0xF2, 0x46]))
      (fun se => decide (se.readCrcErrors = 1 ∧ se.nCorrupt = 1 ∧ se.txSel = .resendRq ∧ se.st = .retry)) = true ∧
    faultIs (step (State.reset.withUnit .response [])) .notClassifying = true := by
  decide +kernel

/-- R114 (c): the bytes of a stream payload with `TERM` inside all arrive, given as bytes or as a term; a short answer to
the header read is no frame (R203). -/
theorem test_illegal_bytes_arrive :
    nextIs (step ((reading .ck0 [] []).withUnit (.streamWire .toEngine) [0xA8, 0x13, 0x04, 0x1E, 0x04]))
      (reading .ck0 [] [0xA8, 0x13, 0x04, 0x1E, 0x04]) = true ∧
    nextIs (step { reading .ck0 [] [] with agenda := [.op 0 (.wireS .toEngine 0xA813 [0x04, 0x1E])] })
      (reading .ck0 [] [0xA8, 0x13, 0x04, 0x1E, 0x04]) = true ∧
    nextSess (step ((exchanging .awaiting .hdr).withUnit .busHeader [0x00]))
      (fun se => decide (se.acq = .noFrame ∧ se.bx = .idle)) = true := by
  decide +kernel

/-! ### Checksum -/

/-- V18. -/
theorem test_crc16Step :
    nextIs (exec (.crc16Step 0xFF) (State.reset.setCrc 0xFFFF)) ((State.reset.setCrc 0xFF00).setReply .done) = true ∧
    crcStep 0xFFFF 0xFF = 0xFF00 ∧ crcStep 0x1234 0x56 = 0x3C40 ∧ crcStep 0x8000 0x00 = 0x9188 := by
  decide +kernel

/-- V2, V13. -/
theorem test_crc16 :
    replyIs (exec (.crc16 (asciiBytes "123456789".toList) 0x0000) State.reset) (.word 0x31C3) = true ∧
    replyIs (exec (.crc16 (asciiBytes "123456789".toList) 0xFFFF) State.reset) (.word 0x29B1) = true := by
  decide +kernel

/-- R140. -/
theorem test_crc16Init : nextIs (exec (.crc16Init 0xD789) State.reset) ((State.reset.setCrc 0xD789).setReply .done) = true := by
  decide +kernel

/-- V20. -/
theorem test_mkpacket :
    replyIs (exec (.mkpacket [0x53, 0x1E, 0x37]) State.reset) (.bytes [0x61, 0x56, 0x53, 0x1E, 0x37]) = true ∧
    replyIs (exec (.mkpacket []) State.reset) (.bytes [0x00, 0x00]) = true := by
  decide +kernel

/-- V21, V22. -/
theorem test_verify :
    replyIs (exec (.verify [0x00, 0x00, 0x00]) State.reset) (.flag true) = true ∧
    replyIs (exec (.verify [0x00, 0x00]) State.reset) (.flag false) = true ∧
    replyIs (exec (.verify [0xA9, 0x13, 0x53, 0x1E]) State.reset) (.flag false) = true ∧
    replyIs (exec (.pkt 0x1861 [0x45]) State.reset) (.flag true) = true := by
  decide +kernel

/-! ### Codec and parser -/

/-- V43. -/
theorem test_fmtArg :
    fmtArg (.bool true) = ['1'] ∧ fmtArg (.int 0) = ['0'] ∧ fmtArg (.int (-5)) = ['-', '5'] ∧
    replyIs (exec (.fmtArg (.int 1023)) State.reset) (.text ['1', '0', '2', '3']) = true := by
  decide +kernel

/-- V44. -/
theorem test_fmtHex :
    replyIs (exec (.fmtHex 0) State.reset) (.bytes [0x30]) = true ∧
    replyIs (exec (.fmtHex 4660) State.reset) (.bytes [0x31, 0x32, 0x33, 0x34]) = true ∧ fmtHex 16 = [0x31, 0x30] := by
  decide +kernel

/-- V45. -/
theorem test_fmtHex2 : replyIs (exec (.fmtHex2 10) State.reset) (.bytes [0x30, 0x61]) = true := by decide +kernel

/-- V46. -/
theorem test_encodeRequest :
    replyIs (exec (.encodeRequest (some 0x7F) 0x1234 [.int (-5), .str "hello".toList, .str []]) State.reset)
      (.bytes [0xFF, 0x0C, 0x52, 0x1E, 0x37, 0x66, 0x1E, 0x31, 0x32, 0x33, 0x34, 0x1E, 0x2D, 0x35, 0x1E, 0x68, 0x65, 0x6C,
        0x6C, 0x6F, 0x1E]) = true ∧
    replyIs (exec (.encodeRequest none 5 [.int 13, .bool true]) State.reset)
      (.bytes [0x67, 0xD9, 0x35, 0x1E, 0x31, 0x33, 0x1E, 0x31]) = true := by
  decide +kernel

/-- V47. -/
theorem test_encodeRequest_refuses :
    nextIs (exec (.encodeRequest (some 0x00) 0 [.str [Char.ofNat 0xE9]]) State.reset) (State.reset.setReply .encodeError) = true := by
  decide +kernel

/-- V48. -/
theorem test_frameS : replyIs (exec (.frameS [0x18, 0x61, 0x45]) State.reset) (.bytes [0x18, 0x61, 0x45, 0x04]) = true := by
  decide +kernel

/-- V51, V53. -/
theorem test_decodeRequest :
    replyIs (exec (.decodeRequest [0xF8, 0xA6, 0x32, 0x61, 0x1E, 0x37, 0x1E, 0x30] .bus) State.reset)
      (.request ⟨none, 42, [[0x37], [0x30]]⟩) = true ∧
    replyIs (exec (.decodeRequest [0xFF, 0x0C, 0x52, 0x1E, 0x37, 0x66, 0x1E, 0x31, 0x32, 0x33, 0x34, 0x1E, 0x2D, 0x35, 0x1E,
      0x68, 0x65, 0x6C, 0x6C, 0x6F, 0x1E] .stream) State.reset)
      (.request ⟨some 127, 4660, [[0x2D, 0x35], [0x68, 0x65, 0x6C, 0x6C, 0x6F], []]⟩) = true := by
  decide +kernel

/-- V54, V55. -/
theorem test_decodeRequest_refuses :
    replyIs (exec (.decodeRequest [0xCE, 0x45, 0x52, 0x1E, 0x30, 0x30, 0x1E, 0x30] .stream) State.reset)
      (.decodeError .badChecksum) = true ∧
    replyIs (exec (.decodeRequest [0x61, 0x56, 0x53, 0x1E, 0x37] .stream) State.reset) (.decodeError .malformed) = true := by
  decide +kernel

/-- R169 with V77 to V79. -/
theorem test_decodeResponse :
    replyIs (exec (.decodeResponse [0x61, 0x56, 0x53, 0x1E, 0x37]) State.reset) (.response (.ok (.str [0x37]))) = true ∧
    replyIs (exec (.decodeResponse [0x00, 0x00, 0x00]) State.reset) (.response (.badHeader 0x00)) = true := by
  decide +kernel

/-- V56, V58. -/
theorem test_renderForLog :
    replyIs (exec (.renderForLog [0x61, 0x56, 0x53, 0x1E, 0x37]) State.reset) (.bytes (asciiBytes "[6156]S\\x1e7".toList)) = true ∧
    replyIs (exec (.renderForLog [0x5C, 0x83, 0x53, 0x1E, 0x61, 0x5C, 0x62, 0x04]) State.reset)
      (.bytes (asciiBytes "[5c83]S\\x1ea\\\\b\\x04".toList)) = true := by
  decide +kernel

/-- V61, V65, V66, V67, V68. -/
theorem test_parseS :
    parseS [0x53, 0x1E] = .noValue ∧ parseS [0x53, 0x1E, 0x37, 0x1E] = .list [[0x37], []] ∧
    parseS [0x53, 0x1E, 0x1E, 0x37] = .list [[], [0x37]] ∧ parseS [0x53, 0x37] = .noValue ∧
    replyIs (exec (.parseS [0x53, 0x58, 0x37]) State.reset) (.returned (.str [0x37])) = true := by
  decide +kernel

/-- V71, V72. -/
theorem test_parseF :
    parseF [0x46] = [] ∧ replyIs (exec (.parseF [0x46, 0x1E, 0x61, 0x1E, 0x62]) State.reset) (.bytes [0x61, 0x1E, 0x62]) = true := by
  decide +kernel

/-- R280, R285: no result is stated for another status byte; the operations answer all the same and touch no register. -/
theorem test_parser_other_status :
    (match exec (.parseS [0x46, 0x1E]) State.reset with
      | .next t => decide (t.setReply .nothing = State.reset)
      | _ => false) = true ∧
    (match exec (.parseF []) State.reset with
      | .next t => decide (t.setReply .nothing = State.reset)
      | _ => false) = true := by
  decide +kernel

/-! ### Frame acquirer -/

/-- V33: a first byte equal to `TERM` is data. -/
theorem test_acquireStream_checksum_byte :
    nextSess (exec (.acquireStream .rxByte) (reading .ck0 [] [0x04, 0x5E])) (fun se => decide (se.fs = .ck1 ∧ se.rxBuf = [0x04])) = true := by
  decide +kernel

/-- V30, V40. -/
theorem test_acquireStream_body :
    nextSess (exec (.acquireStream .rxByte) (reading .body [0x61, 0x56, 0x53, 0x1E, 0x37] [0x04]))
      (fun se => decide (se.acq = .frame [0x61, 0x56, 0x53, 0x1E, 0x37] ∧ se.fs = .idle)) = true ∧
    nextSess (exec (.acquireStream .rxByte)
        { reading .body [0x61, 0x56, 0x53, 0x1E] [0x37, 0x04] with cfg := { Config.default with rxCap := some 4 } })
      (fun se => decide (se.fs = .settle ∧ se.rxBuf = [])) = true := by
  decide +kernel

/-- V35, V36: the recovery empties both queues of the link. -/
theorem test_flushRecover :
    nextIs (exec .flushRecover ((reading .body [0x61] [0x56]).setTx 7 [0x18])) (reading .settle [] []) = true ∧
    faultIs (exec .flushRecover (reading .idle [] [])) .notAcquiring = true := by
  decide +kernel

/-- V86, V89. -/
theorem test_busExchange :
    nextSess (exec (.busExchange [0x00, 0x06, 0xF9]) (exchanging .awaiting .hdr)) (fun se => decide (se.bx = .body)) = true ∧
    nextSess (exec (.busExchange []) (exchanging .awaiting .hdr)) (fun se => decide (se.bx = .idle ∧ se.acq = .noFrame)) = true := by
  decide +kernel

/-- V87: the checksum is tested before the status. -/
theorem test_hdrCheck :
    replyIs (exec .hdrCheck (holding { session .bus .awaiting with bx := .hdr, hdr := ⟨0x45, 0x00, 0xBB⟩ })) (.header .hdrBad) = true ∧
    replyIs (exec .hdrCheck (holding { session .bus .awaiting with bx := .hdr, hdr := ⟨0x00, 0x05, 0xFA⟩ })) (.header (.ok 5)) = true := by
  decide +kernel

/-- V87, V88 as wire rows. -/
theorem test_headers_arrive :
    nextSess (exec (.busHdr 0x00 0x05 0x00) (exchanging .awaiting .hdr)) (fun se => decide (se.acq = .hdrBad ∧ se.bx = .idle)) = true ∧
    nextSess (exec (.busHdrNak 0x45 0x00 0xBA) (exchanging .awaiting .hdr)) (fun se => decide (se.acq = .hdrNak ∧ se.hdrNak)) = true := by
  decide +kernel

/-- V91: a short body is no frame. -/
theorem test_wireBBody :
    nextSess (exec (.wireBBody 0x69C5 [0x53, 0x1E]) (holding { session .bus .awaiting with bx := .body, hdr := ⟨0x00, 0x06, 0xF9⟩ }))
      (fun se => decide (se.acq = .noFrame ∧ se.bx = .idle)) = true := by
  decide +kernel

/-! ### Sends -/

/-- V86: the write goes to address `0x12`, whole. -/
theorem test_bus_write_rows :
    nextIs (exec (.wireBReq 0xF8A6 [0x32, 0x61, 0x1E, 0x37, 0x1E, 0x30]) (exchanging .sending .write))
      ((exchanging .awaiting .hdr).logBus 7 (.write 0x12 [0xF8, 0xA6, 0x32, 0x61, 0x1E, 0x37, 0x1E, 0x30])) = true ∧
    nextIs (exec (.reqB 0xF8A6 (.value 0x002A) [[0x37], [0x30]]) (exchanging .sending .write))
      ((exchanging .awaiting .hdr).logBus 7 (.write 0x12 [0xF8, 0xA6, 0x32, 0x61, 0x1E, 0x37, 0x1E, 0x30])) = true := by
  decide +kernel

/-- P1, P2: the framed request, and the framed control packet. -/
theorem test_stream_send_rows :
    nextIs (exec (.reqS 0xCF45 (.value 0x00) (some (.value 0x0000)) [])
        (holding { session .stream .sending with txPkt := [0xCF, 0x45, 0x52, 0x1E, 0x30, 0x30, 0x1E, 0x30] }))
      ((holding { session .stream .awaiting with
          txPkt := [0xCF, 0x45, 0x52, 0x1E, 0x30, 0x30, 0x1E, 0x30], fs := .ck0 }).setTx 7
          [0xCF, 0x45, 0x52, 0x1E, 0x30, 0x30, 0x1E, 0x30, 0x04]) = true ∧
    nextIs (exec .rqResend (holding { session .stream .sending with txSel := .resendRq }))
      ((holding { session .stream .awaiting with txSel := .resendRq, fs := .ck0 }).setTx 7
          [0x18, 0x61, 0x45, 0x04]) = true := by
  decide +kernel

/-- P1: the reply's bytes join the queue, terminator included. -/
theorem test_wireS_arrives :
    nextIs (exec (.wireS .toEngine 0xA813 [0x53, 0x1E]) (reading .ck0 [] [0xFF]))
      (reading .ck0 [] [0xFF, 0xA8, 0x13, 0x53, 0x1E, 0x04]) = true := by
  decide +kernel

/-! ### Classifier -/

/-- V80: a damaged failure frame is class 2. -/
theorem test_classify :
    replyIs (exec .classify (classifying .stream (.frame [0x2C, 0xF2, 0x46, 0x1E, 0x62, 0x61, 0x64, 0x20, 0x70, 0x69, 0x6E])))
      (.classified .c2Corrupt .retry .sendRqResend) = true ∧
    replyIs (exec .classify (classifying .bus .hdrNak)) (.classified .c3Nak .retry .redoExchange) = true := by
  decide +kernel

/-- V83, V85. -/
theorem test_classify_exhausted_and_saturated :
    nextSess (exec .classify (classifying .stream .noFrame 3)) (fun se => decide (se.st = .idle ∧
      se.result = .err .noResponse 0x12 (asciiBytes "max retries: no response".toList))) = true ∧
    nextSess (exec .classify (holding { session .stream .classifying with readCrcErrors := 4294967295 }))
      (fun se => decide (se.readCrcErrors = 4294967295 ∧ se.st = .retry)) = true := by
  decide +kernel

/-- R336: the step that leaves `CLASSIFYING` with an error frees the lock and raises it; `CLASSIFY` itself says
`FATAL`. -/
theorem test_raise_in_one_step :
    (match step ((classifying .stream .noFrame 3).takeLock 7) with
      | .next t => decide (t.sess.st = .idle ∧ t.lockOf 7 = none ∧
          t.reply = .raised .noResponse 0x12 (asciiBytes "max retries: no response".toList))
      | _ => false) = true ∧
    replyIs (exec .classify (classifying .stream .noFrame 3))
      (.classifiedRaised .c1NoFrame .none .noResponse 0x12 (asciiBytes "max retries: no response".toList)) = true := by
  decide +kernel

/-- V77, V78. -/
theorem test_resp_rows :
    nextSess (exec (.respS 0x6156 [0x1E, 0x37]) (classifying .stream (.frame [0x61, 0x56, 0x53, 0x1E, 0x37])))
      (fun se => decide (se.st = .success ∧ se.result = .value (.str [0x37]))) = true ∧
    nextSess (exec (.respF 0x2CF3 [0x1E, 0x62, 0x61, 0x64, 0x20, 0x70, 0x69, 0x6E])
        (classifying .stream (.frame [0x2C, 0xF3, 0x46, 0x1E, 0x62, 0x61, 0x64, 0x20, 0x70, 0x69, 0x6E])))
      (fun se => decide (se.result = .err .remoteCallFault 0x12 (asciiBytes "bad pin".toList))) = true := by
  decide +kernel

/-- V76, V79. -/
theorem test_resp_rows_other :
    nextSess (exec (.respE 0x01C6 [0x1E]) (classifying .stream (.frame [0x01, 0xC6, 0x45, 0x1E])))
      (fun se => decide (se.writeCrcErrors = 1 ∧ se.nNak = 1 ∧ se.st = .retry)) = true ∧
    nextSess (exec (.respReserved 0x8756 0x73 [0x1E, 0x31]) (classifying .stream (.frame [0x87, 0x56, 0x73, 0x1E, 0x31])))
      (fun se => decide (se.st = .idle ∧
        se.result = .err .unrecognizedHeader 0x12 (asciiBytes "unrecognized response header".toList))) = true := by
  decide +kernel

/-! ### Host operations -/

/-- R301: the second session shares the handle. -/
theorem test_openSession :
    (match exec (.openSession .stream 0x12 7) { idle .stream with cur := 1 } with
      | .next t => decide (t.regEntry 7 = some ⟨.stream, 2⟩ ∧ t.sess.isOpen = true)
      | _ => false) = true ∧
    replyIs (exec (.openSession .stream 0x80 7) State.reset) (.openError .badAddress 0x80) = true := by
  decide +kernel

/-- R305: what the session counted is gone. -/
theorem test_closeSession :
    (match exec .closeSession ((idle .stream).setSess { session .stream .idle 3 with nNoframe := 3, readCrcErrors := 3 }) with
      | .next t => decide (t.regEntry 7 = none ∧ t.sess.isOpen = false ∧ t.sess.attempts = 0 ∧ t.sess.nNoframe = 0 ∧
          t.sess.readCrcErrors = 0)
      | _ => false) = true ∧
    refusedIs (exec .closeSession State.reset) .sessionClosed = true := by
  decide +kernel

/-- R231, P5: the request on the bus has neither leader nor address. -/
theorem test_call :
    nextSess (exec (.call 0x2A [.int 7, .bool false]) (idle .bus)) (fun se => decide (se.st = .sending ∧
      se.txPkt = [0xF8, 0xA6, 0x32, 0x61, 0x1E, 0x37, 0x1E, 0x30])) = true ∧
    refusedIs (exec (.call 0 []) (exchanging .sending .write)) .sessionBusy = true := by
  decide +kernel

/-- R304. -/
theorem test_rdCnt :
    replyIs (exec (.rdCnt .readCrcErrors) (holding { session .bus .idle with readCrcErrors := 1 })) (.count 1) = true ∧
    replyIs (exec (.rdCnt .writeCrcErrors) (holding { session .bus .idle with readCrcErrors := 1 })) (.count 0) = true := by
  decide +kernel

/-- R380, R41. -/
theorem test_reset :
    (match exec .reset (idle .stream) with
      | .next t => decide (t.sessions = [] ∧ t.registry = [] ∧ t.locks = [] ∧ t.crc = 0x0000)
      | _ => false) = true := by
  decide +kernel

/-- R306, P8 (b). -/
theorem test_rdDiag_rdTrace :
    replyIs (exec .rdDiag (holding { session .stream .idle 3 with nNoframe := 2, nCorrupt := 1 })) (.diag 3 2 1 0 0) = true ∧
    replyIs (exec .rdTrace (holding { session .stream .idle with trace := [⟨1, .c5RemoteFail, .none⟩] }))
      (.trace [⟨1, .c5RemoteFail, .none⟩]) = true := by
  decide +kernel

/-! ### Witnesses: states and operands that meet the statements' hypotheses -/

theorem witness_DecodeOfEncodeIsIdentity :
    Instr.wellFormed Config.default (.respS 0x6156 [0x1E, 0x37]) = true ∧
    encode Config.default (.respS 0x6156 [0x1E, 0x37]) = some (.response, [0x61, 0x56, 0x53, 0x1E, 0x37]) := by
  decide +kernel

theorem witness_DecodedUnitsReencodeToTheSameBytes :
    decode Config.default .busRequest [0x36, 0x53, 0x30] = .ok (.reqB 0x3653 (.value 0x0000) []) := by
  decide +kernel

theorem witness_StepRunsWhatIsFetched :
    (∃ (s : State) (sid : SessId) (i : Instr) (rest : List Input),
      s.agenda = .op sid i :: rest ∧ i.wellFormed s.cfg = true) ∧
    (∃ (s : State) (sid : SessId) (i : Instr) (rest : List Input),
      s.agenda = .op sid i :: rest ∧ i.wellFormed s.cfg = false) ∧
    (∃ (s : State) (sid : SessId) (ch : Channel) (bs : Bytes) (rest : List Input) (e : DecodeReject),
      s.agenda = .unit sid ch bs :: rest ∧ decode s.cfg ch bs = .error e) ∧
    decode State.reset.cfg (tableChannel State.reset.cfg 32 (tableBytes 32 0x1E530000)) (tableBytes 32 0x1E530000)
      = .error .badChecksum ∧
    (∃ (s : State) (sid : SessId) (ch : Channel) (bs : Bytes) (rest : List Input) (i : Instr), s.agenda = .unit sid ch bs :: rest ∧ decode s.cfg ch bs = .ok i) ∧
    decode State.reset.cfg (tableChannel State.reset.cfg 24 (tableBytes 24 0x456118)) (tableBytes 24 0x456118) = .ok .rqResend ∧
    (∃ (s : State) (sid : SessId) (rest : List Input), s.agenda = .tick sid :: rest) ∧ State.reset.agenda = [] ∧
    (∃ (s : State) (l : LinkId) (bs : Bytes) (rest : List Input), s.agenda = .arrive l bs :: rest) ∧ (∃ (s : State) (l : LinkId) (n : Nat) (rest : List Input), s.agenda = .transmit l n :: rest) :=
  ⟨⟨{ State.reset with agenda := [.op 0 .reset] }, 0, .reset, [], rfl, rfl⟩,
   ⟨{ State.reset with agenda := [.op 0 (.busHdr 0x45 0x00 0xBA)] }, 0, .busHdr 0x45 0x00 0xBA, [], rfl, by decide +kernel⟩,
   ⟨{ State.reset with agenda := [.unit 0 .packet [0x18]] }, 0, .packet, _, [], .tooShort, rfl, rfl⟩,
   by decide +kernel,
   ⟨{ State.reset with agenda := [.unit 0 .packet [0x18, 0x61, 0x45]] }, 0, .packet, _, [], .pkt 0x1861 [0x45], rfl,
     by decide +kernel⟩,
   by decide +kernel, ⟨{ State.reset with agenda := [.tick 0] }, 0, [], rfl⟩, rfl,
   ⟨{ State.reset with agenda := [.arrive 7 [0x04]] }, 7, _, [], rfl⟩,
   ⟨{ State.reset with agenda := [.transmit 7 1] }, 7, 1, [], rfl⟩⟩

/-- V15. -/
theorem witness_Crc16Chains :
    (∃ t, exec (.crc16 (asciiBytes "1234".toList) 0x0000) State.reset = .next t) ∧
    crc16 (asciiBytes "1234".toList) 0x0000 = 0xD789 ∧ crc16 (asciiBytes "56789".toList) 0xD789 = 0x31C3 :=
  ⟨⟨_, rfl⟩, by decide +kernel⟩

/-- V23, at both ends of the packet. -/
theorem witness_SingleBitErrorFailsVerify :
    verify [0x61, 0x56, 0x53, 0x1E, 0x37] = true ∧ ([0x61, 0x56, 0x53, 0x1E, 0x37] : Bytes)[0]? = some 0x61 ∧
    ([0x61, 0x56, 0x53, 0x1E, 0x37] : Bytes)[4]? = some 0x37 ∧ 7 < 8 ∧
    ([0x61, 0x56, 0x53, 0x1E, 0x37] : Bytes).set 4 (0x37 ^^^ (1#8 <<< 2)) = [0x61, 0x56, 0x53, 0x1E, 0x33] := by
  decide +kernel

theorem witness_ResidueOfPayloadAndChecksumIsZero : ([0x53, 0x1E, 0x37] : Bytes) ≠ [] := by decide

theorem witness_VerifyComparesChecksums :
    2 < ([0x00, 0x00, 0x00] : Bytes).length ∧ ([0x00, 0x00] : Bytes).length ≤ 2 := by
  decide

theorem witness_RequestRoundTrip :
    ([.bool true, .int (-5), .str "hello".toList, .str []] : List Value).all plainArg = true := by
  decide +kernel

/-- V47, V49: a separator in an argument is no reason to refuse. -/
theorem witness_EncodeRequestRefusesExactlyNonAscii :
    ([.int 1, .str [Char.ofNat 0x80]] : List Value).any nonAsciiArg = true ∧
    ([.str [Char.ofNat 0x7F, Char.ofNat 0x1E]] : List Value).any nonAsciiArg = false := by
  decide +kernel

theorem witness_DecodeRequestAnswersEveryPacket :
    verify [0xCE, 0x45, 0x52, 0x1E, 0x30, 0x30, 0x1E, 0x30] = false ∧
    verify [0xCF, 0x45, 0x52, 0x1E, 0x30, 0x30, 0x1E, 0x30] = true := by
  decide +kernel

theorem witness_DecodeResponseAgreesWithClassifier :
    (∀ p : Bytes, (classifying .stream (.frame p)).sess = { session .stream .classifying with acq := .frame p }) ∧
    (session .stream .classifying).isOpen = true ∧ (session .stream .classifying).st = .classifying ∧
    decodeResponse [0x00, 0x00] = .invalid ∧ decodeResponse [0x18, 0x61, 0x45] = .nak ∧
    decodeResponse [0xA8, 0x13, 0x53, 0x1E] = .ok .noValue ∧ decodeResponse [0x28, 0x02, 0x46] = .remoteFail [] ∧
    decodeResponse [0x00, 0x00, 0x00] = .badHeader 0x00 :=
  ⟨fun _ => by simp [classifying, holding], by decide +kernel⟩

theorem witness_ParsedResultFollowsSeparators :
    ([0x53, 0x1E] : Bytes).drop 2 = [] ∧
    (([0x53, 0x1E, 0x37] : Bytes).drop 2 ≠ [] ∧ sep ∉ ([0x53, 0x1E, 0x37] : Bytes).drop 2) ∧
    sep ∈ ([0x53, 0x1E, 0x1E] : Bytes).drop 2 ∧ ([0x53, 0x1E] : Bytes).head? = some 0x53 ∧
    ([0x46] : Bytes).head? = some 0x46 ∧ ([] : Bytes).head? ≠ some 0x53 ∧ ([0x53] : Bytes).head? ≠ some 0x46 := by
  decide

/-- V30, and V41: the buffer is just large enough. -/
theorem witness_StreamFrameIsAcquired :
    ∃ (s : State) (c0 c1 : Byte) (d rest : Bytes), s.sess.isOpen = true ∧ s.sess.kind = .stream ∧ s.sess.fs = .ck0 ∧
      (∀ n, s.cfg.rxCap = some n → d.length + 2 ≤ n) ∧ s.cfg.term ∉ d ∧
      s.rx s.sess.linkId = c0 :: c1 :: (d ++ s.cfg.term :: rest) ∧ s.cfg.rxCap = some 5 := by
  refine ⟨{ reading .ck0 [] [0x61, 0x56, 0x53, 0x1E, 0x37, 0x04, 0xFF] with
      cfg := { Config.default with rxCap := some 5 } }, 0x61, 0x56, [0x53, 0x1E, 0x37], [0xFF], ?_⟩
  refine ⟨by decide +kernel, by decide +kernel, by decide +kernel, ?_, by decide +kernel, by decide +kernel, rfl⟩
  intro n h
  cases h
  decide

theorem witness_StreamByteByState_open :
    ∀ fs ∈ [SyncState.ck0, .ck1, .body, .settle],
      (reading fs [0x61, 0x56, 0x53, 0x1E] [0x04, 0x37]).sess.isOpen = true ∧
      (reading fs [0x61, 0x56, 0x53, 0x1E] [0x04, 0x37]).sess.kind = .stream ∧
      (reading fs [0x61, 0x56, 0x53, 0x1E] [0x04, 0x37]).sess.fs = fs ∧
      (reading fs [0x61, 0x56, 0x53, 0x1E] [0x04, 0x37]).rx 7 = [0x04, 0x37] ∧
      (reading fs [0x61, 0x56, 0x53, 0x1E] [0x04, 0x37]).sess.linkId = 7 := by
  decide +kernel

/-- The buffer clauses meet at `RX_CAP = 4` and `RX_CAP = 5` with four bytes held (V40, V41). -/
theorem witness_StreamByteByState_buffer :
    (0x37 : Byte) ≠ Config.default.term ∧
    (∀ n, ({ Config.default with rxCap := some 5 } : Config).rxCap = some n →
      (reading .body [0x61, 0x56, 0x53, 0x1E] [0x37]).sess.rxBuf.length < n) ∧
    (∃ n, ({ Config.default with rxCap := some 4 } : Config).rxCap = some n ∧
      n ≤ (reading .body [0x61, 0x56, 0x53, 0x1E] [0x37]).sess.rxBuf.length) := by
  refine ⟨by decide, ?_, 4, rfl, by decide +kernel⟩
  intro n h
  cases h
  decide +kernel

theorem witness_TimeoutFlushesAndSettles :
    ∀ fs ∈ [SyncState.ck0, .ck1, .body],
      (reading fs [0x61] [0x56]).sess.isOpen = true ∧ (reading fs [0x61] [0x56]).sess.kind = .stream ∧
      ((reading fs [0x61] [0x56]).sess.fs = .ck0 ∨ (reading fs [0x61] [0x56]).sess.fs = .ck1 ∨
        ((reading fs [0x61] [0x56]).sess.fs = .body ∧ (reading fs [0x61] [0x56]).sess.termSeen = false)) := by
  decide +kernel

/-- A session whose link settles after the first attempt's timeout, with a late byte in its queue. -/
def settling : State := (holding { session .stream .awaiting 0 with fs := .settle }).setRx 7 [0x04]

theorem settling_session (sid : SessId) :
    settling.session sid = if sid = 0 then { session .stream .awaiting 0 with fs := .settle } else Session.reset := by
  by_cases h : sid = 0
  · subst h
    decide +kernel
  · rw [if_neg h]
    change Assoc.getD Session.reset sid (Assoc.put Session.reset 0 { session .stream .awaiting 0 with fs := .settle } []) = _
    rw [Assoc.getD_put_other Session.reset h]
    rfl

theorem witness_SettleDoneReportsNoFrame :
    settling.sess.isOpen = true ∧ settling.sess.kind = .stream ∧ settling.sess.fs = .settle ∧ SessionsInv settling := by
  refine ⟨by decide +kernel, by decide +kernel, by decide +kernel, by decide +kernel, fun sid => ?_⟩
  rw [settling_session]
  split <;> constructor <;> first | decide +kernel | (intro h; cases h; done) | (intro _ _ _ h; cases h)

theorem witness_UnacceptedEventsChangeNothing :
    State.reset.sess.isOpen = false ∧ (exchanging .awaiting .hdr).sess.kind = .bus ∧
    (reading .idle [] [0x04]).sess.fs = .idle ∧ (reading .ck0 [] []).rx (reading .ck0 [] []).sess.linkId = [] ∧
    (reading .settle [] []).sess.fs = .settle ∧ (reading .ck0 [] []).sess.fs ≠ .settle := by
  decide +kernel

/-- Both values of `skip_write`. -/
theorem witness_BusExchangeStarts :
    ∀ b : Bool, (holding { session .bus .sending with skipWrite := b }).sess.isOpen = true ∧
      (holding { session .bus .sending with skipWrite := b }).sess.kind = .bus ∧
      (holding { session .bus .sending with skipWrite := b }).sess.st = .sending ∧
      (holding { session .bus .sending with skipWrite := b }).sess.bx = .idle ∧
      (holding { session .bus .sending with skipWrite := b }).sess.skipWrite = b := by
  decide +kernel

/-- V86 to V90, for both values of `skip_write`. -/
theorem witness_BusExchangeFollowsAnswers :
    (∀ b : Bool, (holding { session .bus .sending with skipWrite := b }).sess.isOpen = true ∧
      (holding { session .bus .sending with skipWrite := b }).sess.kind = .bus ∧
      (holding { session .bus .sending with skipWrite := b }).sess.st = .sending ∧
      (holding { session .bus .sending with skipWrite := b }).sess.bx = .idle ∧
      (holding { session .bus .sending with skipWrite := b }).sess.skipWrite = b) ∧
    ([0x00, 0x06] : Bytes).length < 3 ∧ (0x00 : Byte) ≠ headerSum 0x00 0x05 ∧
    (0xBA = headerSum 0x45 0x00 ∧ Config.default.isNak 0x45 = true) ∧
    (0xF9 = headerSum 0x00 0x06 ∧ Config.default.isNak 0x00 = false) ∧
    ([0x69, 0xC5, 0x53, 0x1E, 0x34, 0x32] : Bytes).length ≤ (0x06 : Byte).toNat := by
  decide +kernel

/-- V24: the sum overflows, and a good negative acknowledgement. -/
theorem witness_HeaderChecksumIsTestedBeforeStatus :
    (∀ h : Header, h ∈ [⟨0xFF, 0xFF, 0x01⟩, ⟨0x45, 0x00, 0xBA⟩, ⟨0x45, 0x00, 0xBB⟩] →
      (holding { session .bus .awaiting with bx := .hdr, hdr := h }).sess.isOpen = true ∧
      (holding { session .bus .awaiting with bx := .hdr, hdr := h }).sess.kind = .bus ∧
      (holding { session .bus .awaiting with bx := .hdr, hdr := h }).sess.st = .awaiting ∧
      (holding { session .bus .awaiting with bx := .hdr, hdr := h }).sess.bx = .hdr ∧
      (holding { session .bus .awaiting with bx := .hdr, hdr := h }).sess.hdr = h) ∧
    ((0x01 : Byte) = ~~~(0xFF + 0xFF) ∧ Config.default.isNak 0xFF = false) ∧
    ((0xBA : Byte) = ~~~(0x45 + 0x00) ∧ Config.default.isNak 0x45 = true) ∧ (0xBB : Byte) ≠ ~~~(0x45 + 0x00) := by
  decide +kernel

/-- Declared lengths 0 and 6. -/
theorem witness_BodyOfDeclaredLengthIsTheFrame :
    (∀ n : Byte, n ∈ [0x00, 0x06] →
      (holding { session .bus .awaiting with bx := .body, hdr := ⟨0x00, n, headerSum 0x00 n⟩ }).sess.isOpen = true ∧
      (holding { session .bus .awaiting with bx := .body, hdr := ⟨0x00, n, headerSum 0x00 n⟩ }).sess.kind = .bus ∧
      (holding { session .bus .awaiting with bx := .body, hdr := ⟨0x00, n, headerSum 0x00 n⟩ }).sess.st = .awaiting ∧
      (holding { session .bus .awaiting with bx := .body, hdr := ⟨0x00, n, headerSum 0x00 n⟩ }).sess.bx = .body ∧
      (holding { session .bus .awaiting with bx := .body, hdr := ⟨0x00, n, headerSum 0x00 n⟩ }).sess.hdr.length = n) ∧
    ([] : Bytes).length = (0x00 : Byte).toNat ∧
    ([0x69, 0xC5, 0x53, 0x1E, 0x34, 0x32] : Bytes).length = (0x06 : Byte).toNat ∧
    ([0x69, 0xC5, 0x53, 0x1E, 0x34] : Bytes).length < (0x06 : Byte).toNat := by
  decide +kernel

theorem witness_BusWriteSendsThePacket :
    (exchanging .sending .write).sess.isOpen = true ∧ (exchanging .sending .write).sess.kind = .bus ∧
    (exchanging .sending .write).sess.st = .sending ∧ (exchanging .sending .write).sess.bx = .write := by
  decide +kernel

theorem witness_StreamSendFramesThePacket :
    ∀ sel ∈ [TxSel.original, .resendRq],
      (holding { session .stream .sending with txSel := sel }).sess.isOpen = true ∧
      (holding { session .stream .sending with txSel := sel }).sess.kind = .stream ∧
      (holding { session .stream .sending with txSel := sel }).sess.st = .sending ∧
      (holding { session .stream .sending with txSel := sel }).sess.txSel = sel := by
  decide +kernel

/-- The send rows: a request and the control packet on the stream, a request on the bus. -/
theorem witness_WireRowsRunTheEngine_sends :
    (let s := holding { session .stream .sending with txPkt := [0xCF, 0x45, 0x52, 0x1E, 0x30, 0x30, 0x1E, 0x30] }
     s.sess.isOpen = true ∧ s.sess.kind = .stream ∧ s.sess.st = .sending ∧ s.sess.txSel = .original ∧
     s.sess.txPkt = beBytes 0xCF45 ++ [0x52, 0x1E, 0x30, 0x30, 0x1E, 0x30] ∧
     s.sess.txPkt = beBytes 0xCF45 ++ streamPayload (.value 0x00) (some (.value 0x0000)) []) ∧
    (let s := holding { session .stream .sending with txSel := .resendRq }
     s.sess.isOpen = true ∧ s.sess.kind = .stream ∧ s.sess.st = .sending ∧ s.sess.txSel = .resendRq ∧
     [0x18, 0x61, 0x45] = beBytes 0x1861 ++ [0x45]) ∧
    (let s := exchanging .sending .write
     s.sess.isOpen = true ∧ s.sess.kind = .bus ∧ s.sess.st = .sending ∧ s.sess.bx = .write ∧
     s.sess.txPkt = beBytes 0xF8A6 ++ [0x32, 0x61, 0x1E, 0x37, 0x1E, 0x30] ∧
     s.sess.txPkt = beBytes 0xF8A6 ++ busPayload (.value 0x002A) [[0x37], [0x30]]) := by
  decide +kernel

/-- The reads: both steps of the bus exchange, and a frame of each status (V3 to V5 and the all-zero frame). -/
theorem witness_WireRowsRunTheEngine_reads :
    (∀ b ∈ [BusState.hdr, .body], (exchanging .awaiting b).sess.isOpen = true ∧ (exchanging .awaiting b).sess.kind = .bus ∧
      (exchanging .awaiting b).sess.st = .awaiting ∧ (exchanging .awaiting b).sess.bx = b) ∧
    (∀ p : Bytes, (classifying .bus (.frame p)).sess = { session .bus .classifying with acq := .frame p }) ∧
    (session .bus .classifying).isOpen = true ∧ (session .bus .classifying).st = .classifying ∧
    crc16 [0x45] seed0 = 0x1861 ∧ crc16 [0x53] seed0 = 0x6A96 ∧ crc16 [0x46] seed0 = 0x2802 ∧ crc16 [0x00] seed0 = 0x0000 :=
  ⟨by decide +kernel, fun _ => by simp [classifying, holding], by decide +kernel⟩

/-- Bytes that are no legal unit: an acquired frame with a wrong checksum, and packets due that hold `TERM`. -/
theorem witness_WireRowsRunTheEngine_illegal :
    decode (classifying .stream (.frame [0x2C, 0xF2, 0x46])).cfg .response [0x2C, 0xF2, 0x46] = .error .badChecksum ∧
    (classifying .stream (.frame [0x2C, 0xF2, 0x46])).sess.acq = .frame [0x2C, 0xF2, 0x46] ∧
    (let s := holding { session .stream .sending with txPkt := [0x00, 0x01, 0x04] }
     s.sess.isOpen = true ∧ s.sess.kind = .stream ∧ s.sess.st = .sending ∧ s.sess.txSel = .original ∧
     s.sess.txPkt = [0x00, 0x01, 0x04] ∧
     decode s.cfg (.streamWire .toPeer) ([0x00, 0x01, 0x04] ++ [s.cfg.term]) = .error .termInside) ∧
    (let s := holding { session .bus .sending with bx := .write, txPkt := [0x00] }
     s.sess.bx = .write ∧ s.sess.txPkt = [0x00] ∧ decode s.cfg .busWrite [0x00] = .error .tooShort) := by
  decide +kernel

/-- Sends: not sending, the other kind of link, before and after the write, and another packet than the one due. -/
theorem witness_UnitsNotDueStopByName_sends :
    State.reset.sess.isOpen = false ∧ (reading .idle [] []).sess.st ≠ .sending ∧
    (exchanging .sending .write).sess.kind = .bus ∧ (holding (session .stream .sending)).sess.kind = .stream ∧
    (∀ b ∈ [BusState.idle, .hdr], (exchanging .sending b).sess.bx ≠ .write) ∧
    (let s := holding (session .stream .sending)
     s.sess.txSel = .original ∧ s.sess.txPkt ≠ beBytes 0x1861 ++ [0x45] ∧
     s.sess.txPkt ≠ beBytes 0xCF45 ++ streamPayload (.value 0x00) (some (.value 0x0000)) []) ∧
    (holding { session .stream .sending with txSel := .resendRq }).sess.txSel = .resendRq ∧
    ([0x18, 0x61, 0x45] : Bytes) ≠ beBytes 0xF8A6 ++ [0x32] ∧
    (exchanging .sending .write).sess.txPkt ≠ beBytes 0x3653 ++ busPayload (.value 0x0000) [] := by
  decide +kernel

/-- Reads: a header at `BX_BODY`, a body at `BX_HDR`, both directions of the step off its state, another frame than the
one acquired, and no open stream link. -/
theorem witness_UnitsNotDueStopByName_reads :
    (exchanging .awaiting .body).sess.bx ≠ .hdr ∧ (exchanging .awaiting .hdr).sess.bx ≠ .body ∧
    (exchanging .sending .write).sess.st ≠ .awaiting ∧
    ((exchanging .sending .hdr).sess.st = .sending ∧ (exchanging .sending .hdr).sess.bx ≠ .idle ∧
      (exchanging .sending .hdr).sess.bx ≠ .write) ∧
    ((exchanging .awaiting .idle).sess.st = .awaiting ∧ (exchanging .awaiting .idle).sess.bx ≠ .hdr ∧
      (exchanging .awaiting .idle).sess.bx ≠ .body) ∧
    (holding (session .bus .idle)).sess.st ≠ .sending ∧ (holding (session .bus .idle)).sess.st ≠ .awaiting ∧
    (reading .idle [] []).sess.st ≠ .classifying ∧
    (∀ b ∈ [(0x53 : Byte), 0x46, 0x45, 0x00],
      (classifying .bus .noFrame).sess.acq ≠ .frame (beBytes 0x0000 ++ b :: [])) ∧
    crc16 [0x53] seed0 ≠ 0x0000 ∧ (reading .idle [] []).sess.fs = .idle ∧ (reading .settle [] []).sess.fs = .settle ∧
    State.reset.sess.isOpen = false ∧ (exchanging .awaiting .hdr).sess.kind = .bus := by
  decide +kernel

theorem witness_AttemptEndsAndRetryStarts :
    ((reading .idle [] []).sess.isOpen = true ∧ (reading .idle [] []).sess.st = .awaiting ∧
      (reading .idle [] []).sess.kind = .stream ∧ (reading .idle [] []).sess.fs = .idle) ∧
    ((exchanging .awaiting .idle).sess.isOpen = true ∧ (exchanging .awaiting .idle).sess.st = .awaiting ∧
      (exchanging .awaiting .idle).sess.kind = .bus ∧ (exchanging .awaiting .idle).sess.bx = .idle) ∧
    (reading .settle [] []).sess.fs ≠ .idle ∧ (exchanging .awaiting .body).sess.bx ≠ .idle ∧
    (holding (session .stream .retry)).sess.st = .retry := by
  decide +kernel

theorem witness_EndOfCallFreesLockAndHandsResult :
    ((holding { session .stream .success with result := .value .noValue }).sess.isOpen = true ∧
      (holding { session .stream .success with result := .value .noValue }).sess.st = .success ∧
      (holding { session .stream .success with result := .value .noValue }).sess.result = .value .noValue) ∧
    ((holding { session .stream .fatal with result := .err .noResponse 0x12 [] }).sess.isOpen = true ∧
      (holding { session .stream .fatal with result := .err .noResponse 0x12 [] }).sess.st = .fatal ∧
      (holding { session .stream .fatal with result := .err .noResponse 0x12 [] }).sess.result = .err .noResponse 0x12 []) ∧
    (3 : LinkId) ≠ (holding (session .stream .fatal)).sess.linkId ∧
    (∀ n ∈ [(2 : BitVec 4), 3], (classifying .stream .noFrame n).sess.isOpen = true ∧
      (classifying .stream .noFrame n).sess.st = .classifying) := by
  decide +kernel

/-- The budget's clauses meet between `attempts = 2` and `attempts = 3`. -/
theorem witness_ClassOneNoFrame :
    (∀ n ∈ [(2 : BitVec 4), 3], (classifying .stream .noFrame n).sess.isOpen = true ∧
      (classifying .stream .noFrame n).sess.st = .classifying ∧ (classifying .stream .noFrame n).sess.acq = .noFrame) ∧
    (classifying .stream .noFrame 2).sess.attempts.toNat < (classifying .stream .noFrame 2).cfg.maxRetries ∧
    (classifying .stream .noFrame 3).cfg.maxRetries ≤ (classifying .stream .noFrame 3).sess.attempts.toNat := by
  decide +kernel

theorem witness_ClassTwoCorruptFrame :
    (∀ k ∈ [Kind.stream, .bus], ∀ n ∈ [(2 : BitVec 4), 3],
      (classifying k (.frame [0xA9, 0x13, 0x53, 0x1E]) n).sess.isOpen = true ∧
      (classifying k (.frame [0xA9, 0x13, 0x53, 0x1E]) n).sess.st = .classifying ∧
      (classifying k (.frame [0xA9, 0x13, 0x53, 0x1E]) n).sess.acq = .frame [0xA9, 0x13, 0x53, 0x1E] ∧
      (classifying k (.frame [0xA9, 0x13, 0x53, 0x1E]) n).sess.kind = k ∧
      (classifying k (.frame [0xA9, 0x13, 0x53, 0x1E]) n).sess.attempts = n) ∧
    verify [0xA9, 0x13, 0x53, 0x1E] = false := by
  decide +kernel

/-- V76 to V79: a frame of each valid class. -/
theorem witness_valid_frames :
    (∀ n ∈ [(2 : BitVec 4), 3], (classifying .stream (.frame (beBytes 0x1861 ++ [0x45])) n).sess.isOpen = true ∧
      (classifying .stream (.frame (beBytes 0x1861 ++ [0x45])) n).sess.st = .classifying ∧
      (classifying .stream (.frame (beBytes 0x1861 ++ [0x45])) n).sess.acq = .frame (beBytes 0x1861 ++ [0x45]) ∧
      (classifying .stream (.frame (beBytes 0x1861 ++ [0x45])) n).sess.attempts = n) ∧
    crc16 [0x45] seed0 = 0x1861 := by
  decide +kernel

theorem witness_ClassThreeNegativeAcknowledgement :
    (classifying .stream (.frame (beBytes 0x1861 ++ 0x45 :: []))).sess.acq = .frame (beBytes 0x1861 ++ 0x45 :: []) ∧
    (classifying .stream (.frame (beBytes 0x1861 ++ 0x45 :: []))).sess.st = .classifying ∧
    (classifying .stream (.frame (beBytes 0x1861 ++ 0x45 :: []))).sess.isOpen = true ∧ crc16 (0x45 :: []) seed0 = 0x1861 := by
  decide +kernel

theorem witness_ClassFourSuccess :
    (classifying .stream (.frame (beBytes 0x6A96 ++ 0x53 :: []))).sess.acq = .frame (beBytes 0x6A96 ++ 0x53 :: []) ∧
    (classifying .stream (.frame (beBytes 0x6A96 ++ 0x53 :: []))).sess.st = .classifying ∧
    (classifying .stream (.frame (beBytes 0x6A96 ++ 0x53 :: []))).sess.isOpen = true ∧ crc16 (0x53 :: []) seed0 = 0x6A96 := by
  decide +kernel

theorem witness_ClassFiveRemoteCallFault :
    (classifying .bus (.frame (beBytes 0x2802 ++ 0x46 :: []))).sess.acq = .frame (beBytes 0x2802 ++ 0x46 :: []) ∧
    (classifying .bus (.frame (beBytes 0x2802 ++ 0x46 :: []))).sess.st = .classifying ∧
    (classifying .bus (.frame (beBytes 0x2802 ++ 0x46 :: []))).sess.isOpen = true ∧ crc16 (0x46 :: []) seed0 = 0x2802 := by
  decide +kernel

theorem witness_ClassSixUnrecognizedHeader :
    (classifying .bus (.frame (beBytes 0x0000 ++ 0x00 :: []))).sess.acq = .frame (beBytes 0x0000 ++ 0x00 :: []) ∧
    (classifying .bus (.frame (beBytes 0x0000 ++ 0x00 :: []))).sess.st = .classifying ∧
    (classifying .bus (.frame (beBytes 0x0000 ++ 0x00 :: []))).sess.isOpen = true ∧ crc16 (0x00 :: []) seed0 = 0x0000 ∧
    (0x00 : Byte) ≠ 0x45 ∧ (0x00 : Byte) ≠ 0x53 ∧ (0x00 : Byte) ≠ 0x46 := by
  decide +kernel

/-- Both header failures, both policies, budget left and used up. -/
theorem witness_header_failures :
    ∀ acq ∈ [Acquired.hdrBad, .hdrNak], ∀ n ∈ [(2 : BitVec 4), 3], ∀ p ∈ [BusHdrPolicy.rewrite, .readOnly],
      let s := { classifying .bus acq n with cfg := { Config.default with busHdrPolicy := p } }
      s.sess.isOpen = true ∧ s.sess.st = .classifying ∧ s.sess.acq = acq ∧ s.cfg.busHdrPolicy = p ∧
      s.sess.attempts = n ∧ s.cfg.maxRetries = 3 := by
  decide +kernel

/-- The session is free to call on both kinds of link; the one argument can be rendered, the other cannot. -/
theorem witness_CallStartsWithCleanCounters :
    ([.str [Char.ofNat 0x80]] : List Value).any nonAsciiArg = true ∧
    (∀ k ∈ [Kind.stream, .bus], (idle k).sess.isOpen = true ∧ (idle k).sess.st = .idle ∧ (idle k).sess.waiting = none ∧
      (idle k).sess.kind = k ∧ (idle k).lockOf (idle k).sess.linkId = none) ∧
    ([.int 7, .bool false] : List Value).any nonAsciiArg = false := by
  decide +kernel

theorem witness_UnencodableCallChangesNoRegister :
    (idle .stream).sess.isOpen = true ∧ (idle .stream).sess.st = .idle ∧ (idle .stream).sess.waiting = none ∧
    (idle .stream).lockOf (idle .stream).sess.linkId = none ∧ ([.str [Char.ofNat 0xE9]] : List Value).any nonAsciiArg = true := by
  decide +kernel

theorem witness_CallIsRefusedOrWaits :
    State.reset.sess.isOpen = false ∧
    ((exchanging .sending .write).sess.isOpen = true ∧ (exchanging .sending .write).sess.st ≠ .idle) ∧
    (let s := { idle .stream with locks := [(7, 1)] }
     s.sess.isOpen = true ∧ s.sess.st = .idle ∧ s.sess.waiting = none ∧ s.lockOf s.sess.linkId ≠ none) ∧
    (let s := holding { session .stream .idle with waiting := some (5, [.int 1]) }
     s.sess.isOpen = true ∧ s.sess.st = .idle ∧ s.sess.waiting = some (5, [.int 1]) ∧ s.lockOf s.sess.linkId = none ∧
     ([.int 1] : List Value).any nonAsciiArg = false) ∧
    (let s := holding { session .bus .idle with waiting := some (5, [.str [Char.ofNat 0x80]]) }
     s.sess.isOpen = true ∧ s.sess.st = .idle ∧ s.sess.waiting = some (5, [.str [Char.ofNat 0x80]]) ∧
     s.lockOf s.sess.linkId = none ∧ ([.str [Char.ofNat 0x80]] : List Value).any nonAsciiArg = true) := by
  decide +kernel

/-- Addresses `0x7F` and `0x80` lie on the two sides of the range test. -/
theorem witness_OpenEntersTheLinkOrFails :
    State.reset.sess.isOpen = false ∧ (0x7F : Byte).toNat ≤ 0x7F ∧ 0x7F < (0x80 : Byte).toNat ∧
    State.reset.regEntry 7 = none ∧ ({ idle .stream with cur := 1 } : State).sess.isOpen = false ∧
    ({ idle .stream with cur := 1 } : State).regEntry 7 = some ⟨.stream, 1⟩ ∧ Kind.stream ≠ .bus ∧
    (idle .stream).sess.isOpen = true := by
  decide +kernel

theorem witness_CloseLeavesTheLink :
    (∀ n ∈ [1, 2], (idle .bus n).sess.isOpen = true ∧ (idle .bus n).sess.st = .idle ∧ (idle .bus n).sess.waiting = none ∧
      (idle .bus n).regEntry (idle .bus n).sess.linkId = some ⟨.bus, n⟩) ∧
    State.reset.sess.isOpen = false ∧ (exchanging .sending .write).sess.st ≠ .idle := by
  decide +kernel

theorem witness_ReadsReturnRegistersAndWriteNone :
    (idle .bus).sess.isOpen = true ∧ (idle .bus).sess.st = .idle ∧ (idle .bus).sess.waiting = none ∧
    State.reset.sess.isOpen = false ∧ (exchanging .sending .write).sess.isOpen = true ∧
    (exchanging .sending .write).sess.st ≠ .idle := by
  decide +kernel

/-! ### Witnesses of the statements about every step -/

/-- A call in flight on link 7: registered, locked, about to send. -/
def calling : State :=
  ((holding { session .stream .sending with attempts := 0 }).setReg 7 ⟨.stream, 1⟩).takeLock 7

theorem calling_session (sid : SessId) :
    calling.session sid = if sid = 0 then { session .stream .sending with attempts := 0 } else Session.reset := by
  by_cases h : sid = 0
  · subst h
    decide +kernel
  · rw [if_neg h]
    change Assoc.getD Session.reset sid (Assoc.put Session.reset 0 { session .stream .sending with attempts := 0 } []) = _
    rw [Assoc.getD_put_other Session.reset h]
    rfl

/-- The send is a next state. -/
theorem witness_step : step calling = .next calling.sendStream := rfl

theorem witness_StepKeepsStoresCanonical : Memory.wf calling = true ∧ step calling = .next calling.sendStream :=
  ⟨by decide +kernel, witness_step⟩

theorem witness_StepKeepsSessionInvariants : SessionsInv calling := by
  refine ⟨by decide +kernel, fun sid => ?_⟩
  rw [calling_session]
  split <;> constructor <;> first | decide +kernel | (intro h; cases h; done) | (intro _ _ _ h; cases h)

theorem witness_StepKeepsRegistryCount : RegistryInv calling := by
  refine ⟨by decide +kernel, fun l e h => ?_, fun sid h => ?_⟩
  · by_cases hl : l = 7
    · subst hl
      have : e = ⟨.stream, 1⟩ := by
        have h' : calling.regEntry 7 = some ⟨.stream, 1⟩ := by decide +kernel
        rw [h'] at h
        exact (Option.some.inj h).symm
      subst this
      decide +kernel
    · have h' : calling.regEntry l = none := Assoc.get?_insert_other hl _ _
      rw [h'] at h
      cases h
  · rw [calling_session] at h ⊢
    split at h
    · rename_i h0
      rw [if_pos h0]
      exact ⟨⟨.stream, 1⟩, by decide +kernel, rfl⟩
    · cases h

theorem witness_StepKeepsLockDiscipline : LocksInv calling := by
  refine ⟨witness_StepKeepsRegistryCount, fun sid h => ?_, fun l sid => ?_⟩
  · rw [calling_session] at h ⊢
    split at h
    · cases h
    · rename_i h0
      rw [if_neg h0]
      rfl
  · rw [calling_session]
    by_cases hl : l = 7
    · subst hl
      have h' : calling.lockOf 7 = some 0 := by decide +kernel
      rw [h']
      by_cases h0 : sid = 0
      · subst h0
        decide +kernel
      · rw [if_neg h0]
        refine ⟨fun h => absurd (Option.some.inj h).symm h0, fun h => absurd rfl h.1⟩
    · have h' : calling.lockOf l = none := Assoc.get?_insert_other hl _ _
      rw [h']
      by_cases h0 : sid = 0
      · rw [if_pos h0]
        refine ⟨(by intro h; cases h), fun h => absurd h.2.symm hl⟩
      · rw [if_neg h0]
        refine ⟨(by intro h; cases h), fun h => absurd rfl h.1⟩

theorem witness_MachinesMoveAlongTheirTransitions :
    SessionsInv calling ∧ ¬ calling.resets ∧ step calling = .next calling.sendStream := by
  refine ⟨witness_StepKeepsSessionInvariants, ?_, witness_step⟩
  rintro ⟨u, h⟩
  have h' : fetch calling = .engine calling := by
    unfold fetch
    rw [show calling.agenda = [] from rfl]
  rw [h'] at h
  cases h

/-- A session other than the one the step is for. -/
theorem witness_StepLeavesOtherSessionsAlone :
    step calling = .next calling.sendStream ∧ (1 : SessId) ≠ calling.sendStream.cur :=
  ⟨witness_step, by decide +kernel⟩

theorem witness_SessionAndRequestRegistersAreConstant :
    step calling = .next calling.sendStream ∧ (calling.session 0).isOpen = true ∧
    (calling.sendStream.session 0).isOpen = true ∧ (calling.session 0).st ≠ .idle ∧
    (calling.sendStream.session 0).st ≠ .idle :=
  ⟨witness_step, by decide +kernel⟩

/-- `n` at both ends of its range, 1 and `MAX_RETRIES`. -/
theorem witness_SilentStreamEndsAfterMaxRetries :
    calling.cfg.legal = true ∧ 1 ≤ 1 ∧ calling.cfg.maxRetries = 3 ∧ calling.sess.isOpen = true ∧
    calling.sess.kind = .stream ∧ calling.sess.st = .sending ∧ calling.sess.attempts = 0 ∧ calling.sess.trace = [] := by
  decide +kernel

end Sys2Proof.Tests
end

section
/-!
PROOFS. The checksum register is linear and has no kernel, so two more bytes clear it exactly when they are its own
value; from this the residue law (40_checksum.md R148).
-/

namespace Sys2Proof.Machine

/-! ### The register step is linear and invertible at 0 -/

theorem crcBit_xor (a b : Word16) : crcBit (a ^^^ b) = crcBit a ^^^ crcBit b := by
  have hshift : (a ^^^ b) <<< 1 = a <<< 1 ^^^ b <<< 1 := BitVec.shiftLeft_xor_distrib a b 1
  unfold crcBit
  rw [BitVec.getLsbD_xor, hshift]
  cases a.getLsbD 15 <;> cases b.getLsbD 15
  case false.false => rfl
  case false.true => exact BitVec.xor_assoc _ _ _
  case true.false =>
    change a <<< 1 ^^^ b <<< 1 ^^^ poly = (a <<< 1 ^^^ poly) ^^^ b <<< 1
    ac_rfl
  case true.true =>
    calc a <<< 1 ^^^ b <<< 1
        = a <<< 1 ^^^ b <<< 1 ^^^ (poly ^^^ poly) := by rw [BitVec.xor_self, BitVec.xor_zero]
      _ = (a <<< 1 ^^^ poly) ^^^ (b <<< 1 ^^^ poly) := by ac_rfl

/-- The polynomial is odd, so bit 0 of the result is the bit shifted out. -/
theorem crcBit_getLsbD_zero (c : Word16) : (crcBit c).getLsbD 0 = c.getLsbD 15 := by
  unfold crcBit
  cases c.getLsbD 15 <;> simp [poly]

theorem crcBit_eq_zero_iff (c : Word16) : crcBit c = 0 ↔ c = 0 := by
  constructor
  · intro h
    have hbit : c.getLsbD 15 = false := by
      rw [← crcBit_getLsbD_zero, h]
      rfl
    have hlow : c <<< 1 = 0 := by
      rw [← h, crcBit, hbit]
      rfl
    have hmsb : c.msb = false := (BitVec.msb_eq_getLsbD_last c).trans hbit
    rw [BitVec.msb_eq_decide, decide_eq_false_iff_not] at hmsb
    bv_omega
  · rintro rfl
    rfl

@[simp] theorem crcBits_zero (c : Word16) : crcBits 0 c = c := rfl

theorem crcBits_succ (n : Nat) (c : Word16) : crcBits (n + 1) c = crcBits n (crcBit c) := rfl

theorem crcBits_add (m n : Nat) (c : Word16) : crcBits (m + n) c = crcBits n (crcBits m c) := by
  induction m generalizing c with
  | zero => simp
  | succ m ih => rw [Nat.succ_add, crcBits_succ, crcBits_succ, ih]

theorem crcBits_xor (n : Nat) (a b : Word16) : crcBits n (a ^^^ b) = crcBits n a ^^^ crcBits n b := by
  induction n generalizing a b with
  | zero => rfl
  | succ n ih => rw [crcBits_succ, crcBit_xor, ih, crcBits_succ, crcBits_succ]

theorem crcBits_eq_zero_iff (n : Nat) (c : Word16) : crcBits n c = 0 ↔ c = 0 := by
  induction n generalizing c with
  | zero => rfl
  | succ n ih => rw [crcBits_succ, ih, crcBit_eq_zero_iff]

/-- A byte on bits 7 to 0 reaches bits 15 to 8 before any of its bits is tested. -/
theorem crcBits_setWidth (b : Byte) : crcBits 8 (b.setWidth 16) = b.setWidth 16 <<< 8 := by
  simp [crcBits_succ, crcBit]

/-! ### Two bytes at the end of the data -/

/-- The two bytes of a word share no bit. -/
theorem be16_eq_xor (hi lo : Byte) : be16 hi lo = (hi.setWidth 16 <<< 8) ^^^ lo.setWidth 16 := by
  unfold be16
  ext i hi16
  by_cases h : i < 8
  · simp [h]
  · have hlo : lo.getLsbD i = false := BitVec.getLsbD_of_ge lo i (by omega)
    simp [hlo]

theorem be16_extractLsb' (v : Word16) : be16 (v.extractLsb' 8 8) (v.extractLsb' 0 8) = v := by
  unfold be16
  ext i hi16
  by_cases h : i < 8
  · simp [h, BitVec.getLsbD_eq_getElem hi16]
  · have hidx : 8 + (i - 8) = i := by omega
    have hbyte : i - 8 < 8 := by omega
    simp [h, hidx, hbyte, BitVec.getLsbD_eq_getElem hi16]

/-- Two bytes in a row act as the 16 bits of their word at once. -/
theorem crcStep_crcStep (c : Word16) (hi lo : Byte) :
    crcStep (crcStep c hi) lo = crcBits 16 (c ^^^ be16 hi lo) := by
  calc crcStep (crcStep c hi) lo
      = crcBits 8 (crcBits 8 (c ^^^ (hi.setWidth 16 <<< 8)) ^^^ crcBits 8 (lo.setWidth 16)) := by
        rw [crcBits_setWidth, crcStep, crcStep]
    _ = crcBits (8 + 8) (c ^^^ (hi.setWidth 16 <<< 8) ^^^ lo.setWidth 16) := by rw [crcBits_add, crcBits_xor 8 (_ ^^^ _)]
    _ = crcBits 16 (c ^^^ be16 hi lo) := by rw [be16_eq_xor, BitVec.xor_assoc]

theorem crc16_append (a b : Bytes) (seed : Word16) : crc16 (a ++ b) seed = crc16 b (crc16 a seed) :=
  List.foldl_append

theorem crc16_append_pair_eq_zero_iff (p : Bytes) (hi lo : Byte) (seed : Word16) :
    crc16 (p ++ [hi, lo]) seed = 0 ↔ crc16 p seed = be16 hi lo := by
  have hpair : crc16 (p ++ [hi, lo]) seed = crcBits 16 (crc16 p seed ^^^ be16 hi lo) := by
    rw [crc16_append, ← crcStep_crcStep]
    rfl
  rw [hpair, crcBits_eq_zero_iff, BitVec.ofNat_eq_ofNat, BitVec.xor_eq_zero_iff]

theorem crc16_append_own_checksum (p : Bytes) (seed : Word16) :
    crc16 (p ++ beBytes (crc16 p seed)) seed = 0 :=
  (crc16_append_pair_eq_zero_iff p _ _ seed).2 (be16_extractLsb' _).symm

/-! ### `VERIFY` of two bytes and a payload -/

theorem verify_cons_cons (hi lo : Byte) {p : Bytes} (hp : p ≠ []) :
    verify (hi :: lo :: p) = decide (crc16 p seed0 = be16 hi lo) := by
  cases p with
  | nil => exact absurd rfl hp
  | cons b rest => rfl

theorem State.runVerify_cons_cons (s : State) (hi lo : Byte) {p : Bytes} (hp : p ≠ []) :
    s.runVerify (hi :: lo :: p) = s.setCrc (crc16 p seed0) := by
  cases p with
  | nil => exact absurd rfl hp
  | cons b rest => simp [State.runVerify, State.runCrc, payloadOf, ckLen]

theorem exec_crc16 (data : Bytes) (seed : Word16) (s : State) :
    exec (.crc16 data seed) s = .next ((s.setCrc (crc16 data seed)).setReply (.word (crc16 data seed))) := rfl

theorem exec_verify (packet : Bytes) (s : State) :
    exec (.verify packet) s = .next ((s.runVerify packet).setReply (.flag (verify packet))) := rfl

end Sys2Proof.Machine

namespace Sys2Proof
open Machine

/-- Settles O8: the checksum of `p ++ [hi, lo]` is 0 exactly when the two bytes are the checksum of `p`. -/
theorem residueOfPayloadAndChecksumIsZero : Obligations.ResidueOfPayloadAndChecksumIsZero := by
  unfold Obligations.ResidueOfPayloadAndChecksumIsZero
  refine fun s p => ⟨?_, fun hi lo hp => ?_⟩
  · rw [exec_crc16, crc16_append_own_checksum]
  · have hflag : verify (hi :: lo :: p) = decide (crc16 (p ++ [hi, lo]) seed0 = 0x0000) := by
      rw [verify_cons_cons hi lo hp]
      exact decide_eq_decide.2 (crc16_append_pair_eq_zero_iff p hi lo seed0).symm
    rw [exec_verify, State.runVerify_cons_cons s hi lo hp, hflag]

end Sys2Proof
end

section
/-!
PROOFS. `CRC16` as a run of the checksum unit's instructions (40_checksum.md R140, R142), and what `VERIFY` answers and
leaves in `crc` (R144).
-/

namespace Sys2Proof.Machine

/-! ### Runs of `CRC16_STEP` -/

theorem exec_crc16Init (seed : Word16) (s : State) :
    exec (.crc16Init seed) s = .next ((s.setCrc seed).setReply .done) := rfl

theorem exec_crc16Step (b : Byte) (s : State) :
    exec (.crc16Step b) s = .next ((s.setCrc (crcStep s.crc b)).setReply .done) := rfl

theorem runInstrs_cons_of_next {i : Instr} {s t : State} (h : exec i s = .next t) (is : List Instr) :
    runInstrs (i :: is) s = runInstrs is t := by
  simp only [runInstrs, h]

theorem crc16_cons (b : Byte) (data : Bytes) (seed : Word16) :
    crc16 (b :: data) seed = crc16 data (crcStep seed b) := rfl

theorem runInstrs_crc16Step (data : Bytes) (c : Word16) (s : State) :
    runInstrs (data.map .crc16Step) ((s.setCrc c).setReply .done)
      = .next ((s.setCrc (crc16 data c)).setReply .done) := by
  induction data generalizing c with
  | nil => rfl
  | cons b data ih =>
    have hstep : exec (.crc16Step b) ((s.setCrc c).setReply .done)
        = .next ((s.setCrc (crcStep c b)).setReply .done) := exec_crc16Step b _
    rw [List.map_cons, runInstrs_cons_of_next hstep, ih, crc16_cons]

theorem runInstrs_crc16Init_crc16Step (data : Bytes) (seed : Word16) (s : State) :
    runInstrs (.crc16Init seed :: data.map .crc16Step) s = .next ((s.setCrc (crc16 data seed)).setReply .done) := by
  rw [runInstrs_cons_of_next (exec_crc16Init seed s), runInstrs_crc16Step]

/-! ### `VERIFY` of any packet -/

theorem verify_eq_true_iff (packet : Bytes) :
    verify packet = true ↔ ∃ hi lo payload, packet = hi :: lo :: payload ∧ payload ≠ [] ∧
      crc16 payload seed0 = be16 hi lo := by
  constructor
  · intro h
    match packet, h with
    | hi :: lo :: b :: rest, h =>
      have hb : b :: rest ≠ [] := List.cons_ne_nil b rest
      rw [verify_cons_cons hi lo hb] at h
      exact ⟨hi, lo, b :: rest, rfl, hb, of_decide_eq_true h⟩
  · rintro ⟨hi, lo, payload, rfl, hp, hck⟩
    rw [verify_cons_cons hi lo hp]
    exact decide_eq_true hck

theorem State.runVerify_eq_setCrc (s : State) (packet : Bytes) :
    s.runVerify packet = s.setCrc (s.runVerify packet).crc := by
  unfold State.runVerify
  split
  · rfl
  · rfl

end Sys2Proof.Machine

namespace Sys2Proof
open Machine

/-- Settles O6, by induction on the bytes: each `CRC16_STEP` is one step of the fold that `crc16` is. -/
theorem crc16IsInitThenSteps : Obligations.Crc16IsInitThenSteps := by
  unfold Obligations.Crc16IsInitThenSteps
  intro s data seed
  exact ⟨exec_crc16Init seed s, _, runInstrs_crc16Init_crc16Step data seed s, exec_crc16 data seed s⟩

/-- Settles O10: the flag is `verify packet`, and the unit runs on the payload exactly for more than two bytes. -/
theorem verifyComparesChecksums : Obligations.VerifyComparesChecksums := by
  unfold Obligations.VerifyComparesChecksums
  refine fun s packet => ⟨_, verify packet, exec_verify packet s, ?_, verify_eq_true_iff packet, ?_, ?_⟩
  · exact congrArg (State.setReply · (.flag (verify packet))) (s.runVerify_eq_setCrc packet)
  · intro hlong
    rw [State.setReply_crc, State.runVerify_crc, if_neg (Nat.not_le.2 hlong)]
    rfl
  · intro hshort
    rw [State.setReply_crc, State.runVerify_crc, if_pos hshort]

end Sys2Proof
end

section
/-!
PROOFS. The hexadecimal forms read back (41_packet_codec.md R162), and the log form is printable (R168).
-/

namespace Sys2Proof.Machine

/-! ### One hexadecimal digit -/

theorem hexValue_hexDigit (d : BitVec 4) : hexValue (hexDigit d) = some d.toNat := by
  revert d
  decide

/-- `hexValue` is a left inverse, so the digit `'0'` is that of the value 0 alone. -/
theorem hexDigit_eq_zero_iff (d : BitVec 4) : hexDigit d = 0x30 ↔ d = 0 := by
  constructor
  · intro h
    have hvalue : some d.toNat = some 0 := by
      rw [← hexValue_hexDigit, h]
      rfl
    exact BitVec.eq_of_toNat_eq (Option.some.inj hvalue)
  · rintro rfl
    rfl

theorem hexDigit_printable (d : BitVec 4) : 0x20 ≤ (hexDigit d).toNat ∧ (hexDigit d).toNat ≤ 0x7E := by
  revert d
  decide

@[simp] theorem hexNumber_nil (acc : Nat) : hexNumber acc [] = some acc := rfl

@[simp] theorem hexNumber_hexDigit_cons (acc : Nat) (d : BitVec 4) (bs : Bytes) :
    hexNumber acc (hexDigit d :: bs) = hexNumber (16 * acc + d.toNat) bs := by
  rw [hexNumber, hexValue_hexDigit]

theorem extractLsb'_four_ne_zero {w : Nat} {v : BitVec w} {i : Nat} (h : v.toNat / 2 ^ i % 16 ≠ 0) :
    v.extractLsb' i 4 ≠ 0 := by
  intro h0
  have hvalue := congrArg BitVec.toNat h0
  rw [BitVec.extractLsb'_toNat, Nat.shiftRight_eq_div_pow] at hvalue
  exact h hvalue

/-! ### `FMT_HEX2` and `FMT_HEX` -/

@[simp] theorem length_fmtHex2 (a : Byte) : (fmtHex2 a).length = 2 := rfl

theorem hexNumber_fmtHex2 (a : Byte) : hexNumber 0 (fmtHex2 a) = some a.toNat := by
  have hdigits : 16 * (a.toNat >>> 4 % 16) + a.toNat % 16 = a.toNat := by omega
  simpa [fmtHex2] using hdigits

theorem fmtHex2_printable {a x : Byte} (hx : x ∈ fmtHex2 a) : 0x20 ≤ x.toNat ∧ x.toNat ≤ 0x7E := by
  obtain rfl | rfl : x = hexDigit (a.extractLsb' 4 4) ∨ x = hexDigit (a.extractLsb' 0 4) := by
    simpa [fmtHex2] using hx
  · exact hexDigit_printable _
  · exact hexDigit_printable _

theorem hexNumber_fmtHex (n : Word16) : hexNumber 0 (fmtHex n) = some n.toNat := by
  have hn : n.toNat < 0x10000 := n.isLt
  unfold fmtHex
  split_ifs
  all_goals
    simp
    omega

/-- `FMT_HEX` gives at least one digit and at most four, and no digit follows a leading 0. -/
theorem fmtHex_eq_map (n : Word16) : ∃ (d : BitVec 4) (ds : List (BitVec 4)),
    fmtHex n = (d :: ds).map hexDigit ∧ ds.length < 4 ∧ (d = 0 → ds = []) := by
  have hn : n.toNat < 0x10000 := n.isLt
  unfold fmtHex
  split_ifs with h1 h2 h3
  · exact ⟨n.extractLsb' 0 4, [], rfl, by simp, fun _ => rfl⟩
  · have hlead : n.extractLsb' 4 4 ≠ 0 := extractLsb'_four_ne_zero (by omega)
    exact ⟨_, [n.extractLsb' 0 4], rfl, by simp, fun h0 => absurd h0 hlead⟩
  · have hlead : n.extractLsb' 8 4 ≠ 0 := extractLsb'_four_ne_zero (by omega)
    exact ⟨_, [n.extractLsb' 4 4, n.extractLsb' 0 4], rfl, by simp, fun h0 => absurd h0 hlead⟩
  · have hlead : n.extractLsb' 12 4 ≠ 0 := extractLsb'_four_ne_zero (by omega)
    exact ⟨_, [n.extractLsb' 8 4, n.extractLsb' 4 4, n.extractLsb' 0 4], rfl, by simp, fun h0 => absurd h0 hlead⟩

theorem length_fmtHex (n : Word16) : 1 ≤ (fmtHex n).length ∧ (fmtHex n).length ≤ 4 := by
  obtain ⟨d, ds, hf, hlen, -⟩ := fmtHex_eq_map n
  rw [hf, List.length_map, List.length_cons]
  omega

theorem fmtHex_eq_zero_of_head? {n : Word16} (h : (fmtHex n).head? = some 0x30) : fmtHex n = [0x30] := by
  obtain ⟨d, ds, hf, -, hlead⟩ := fmtHex_eq_map n
  rw [hf] at h ⊢
  have hd : hexDigit d = 0x30 := Option.some.inj h
  rw [hlead ((hexDigit_eq_zero_iff d).1 hd), List.map_cons, hd, List.map_nil]

theorem exec_fmtHex (n : Word16) (s : State) : exec (.fmtHex n) s = .next (s.setReply (.bytes (fmtHex n))) := rfl

theorem exec_fmtHex2 (a : Byte) (s : State) : exec (.fmtHex2 a) s = .next (s.setReply (.bytes (fmtHex2 a))) := rfl

/-! ### The log form of a byte and of a packet -/

theorem renderByte_backslash (c : Config) : renderByte c 0x5C = [0x5C, 0x5C] := rfl

theorem renderByte_of_plain {c : Config} {b : Byte} (hb : b ≠ 0x5C) (hlo : 0x20 ≤ b.toNat) (hhi : b.toNat ≤ 0x7E)
    (hterm : b ≠ c.term) : renderByte c b = [b] := by
  rw [renderByte, if_neg hb, if_pos ⟨hlo, hhi, hterm⟩]

theorem renderByte_of_escaped {c : Config} {b : Byte} (hb : b ≠ 0x5C)
    (hesc : b.toNat < 0x20 ∨ 0x7E < b.toNat ∨ b = c.term) : renderByte c b = 0x5C :: 0x78 :: fmtHex2 b := by
  have hplain : ¬ (0x20 ≤ b.toNat ∧ b.toNat ≤ 0x7E ∧ b ≠ c.term) := by
    rintro ⟨hlo, hhi, hterm⟩
    rcases hesc with h | h | h
    · omega
    · omega
    · exact hterm h
  rw [renderByte, if_neg hb, if_neg hplain]

theorem renderByte_printable {c : Config} {b x : Byte} (hx : x ∈ renderByte c b) :
    0x20 ≤ x.toNat ∧ x.toNat ≤ 0x7E := by
  unfold renderByte at hx
  split_ifs at hx with hb hplain
  · obtain rfl : x = 0x5C := by simpa using hx
    decide
  · obtain rfl : x = b := by simpa using hx
    exact ⟨hplain.1, hplain.2.1⟩
  · obtain rfl | rfl | hhex : x = 0x5C ∨ x = 0x78 ∨ x ∈ fmtHex2 b := by simpa using hx
    · decide
    · decide
    · exact fmtHex2_printable hhex

theorem renderForLog_eq_flatten (c : Config) (packet : Bytes) :
    renderForLog c packet = 0x5B :: ((packet.take 2).map fmtHex2).flatten ++
      0x5D :: ((packet.drop 2).map (renderByte c)).flatten := by
  simp [renderForLog, payloadOf, ckLen, List.flatMap_def]

theorem renderForLog_printable {c : Config} {packet : Bytes} {x : Byte} (hx : x ∈ renderForLog c packet) :
    0x20 ≤ x.toNat ∧ x.toNat ≤ 0x7E := by
  obtain rfl | ⟨b, -, hb⟩ | rfl | ⟨b, -, hb⟩ : x = 0x5B ∨ (∃ b ∈ packet.take ckLen, x ∈ fmtHex2 b) ∨ x = 0x5D ∨
      ∃ b ∈ payloadOf packet, x ∈ renderByte c b := by
    simpa [renderForLog] using hx
  · decide
  · exact fmtHex2_printable hb
  · decide
  · exact renderByte_printable hb

theorem exec_renderForLog (packet : Bytes) (s : State) :
    exec (.renderForLog packet) s = .next (s.setReply (.bytes (renderForLog s.cfg packet))) := rfl

end Sys2Proof.Machine

namespace Sys2Proof
open Machine

/-- Settles O13: each digit is four bits of the operand, which `hexNumber` puts together again, and a number of more
than one digit has nonzero bits in its first. -/
theorem hexFormsReadBack : Obligations.HexFormsReadBack := by
  unfold Obligations.HexFormsReadBack
  refine fun s n a => ⟨⟨fmtHex n, exec_fmtHex n s, hexNumber_fmtHex n, ?_⟩,
    ⟨fmtHex2 a, exec_fmtHex2 a s, hexNumber_fmtHex2 a, length_fmtHex2 a⟩⟩
  exact ⟨(length_fmtHex n).1, (length_fmtHex n).2, fmtHex_eq_zero_of_head?⟩

/-- Settles O18: the form of each byte is `fmtHex2` of it in front of the bracket and `renderByte` of it behind, and
every byte of these is printable. -/
theorem renderedPacketIsPrintable : Obligations.RenderedPacketIsPrintable := by
  unfold Obligations.RenderedPacketIsPrintable
  intro s packet
  refine ⟨(packet.take 2).map fmtHex2, (packet.drop 2).map (renderByte s.cfg), ?_,
    List.length_map .., List.length_map .., ?_, ?_, ?_⟩
  · rw [exec_renderForLog, renderForLog_eq_flatten]
  · intro i b f hb hf
    obtain rfl : fmtHex2 b = f := by
      rw [List.getElem?_map, hb] at hf
      exact Option.some.inj hf
    exact ⟨length_fmtHex2 b, hexNumber_fmtHex2 b⟩
  · intro i b f hb hf
    obtain rfl : renderByte s.cfg b = f := by
      rw [List.getElem?_map, hb] at hf
      exact Option.some.inj hf
    refine ⟨?_, renderByte_of_plain, fun hne hesc => ?_⟩
    · rintro rfl
      exact renderByte_backslash s.cfg
    · exact ⟨fmtHex2 b, renderByte_of_escaped hne hesc, length_fmtHex2 b, hexNumber_fmtHex2 b⟩
  · intro x hx
    rw [← renderForLog_eq_flatten] at hx
    exact renderForLog_printable hx

end Sys2Proof
end

section
/-!
PROOFS. Arguments render in canonical decimal (41_packet_codec.md R161), and `ENCODE_REQUEST` refuses exactly the
strings that are not ASCII (R163, R164).
-/

namespace Sys2Proof.Machine

/-! ### Decimal digits -/

theorem toNat_decChar {d : Nat} (hd : d < 10) : (Char.ofNat (0x30 + d)).toNat = 0x30 + d := by
  have hvalid : (0x30 + d).isValidChar := Or.inl (by omega)
  rw [Char.toNat_ofNat, if_pos hvalid]

theorem decDigits_of_lt_ten (fuel : Nat) {n : Nat} (hn : n < 10) (acc : List Char) :
    decDigits (fuel + 1) n acc = Char.ofNat (0x30 + n) :: acc := by
  rw [decDigits, if_pos hn, Nat.mod_eq_of_lt hn]

theorem decDigits_of_ten_le (fuel : Nat) {n : Nat} (hn : ¬ n < 10) (acc : List Char) :
    decDigits (fuel + 1) n acc = decDigits fuel (n / 10) (Char.ofNat (0x30 + n % 10) :: acc) := by
  rw [decDigits, if_neg hn]

theorem natOfDigits_decChar_cons (k : Nat) {d : Nat} (hd : d < 10) (cs : List Char) :
    natOfDigits k (Char.ofNat (0x30 + d) :: cs) = natOfDigits (10 * k + d) cs := by
  have hrange : '0'.toNat ≤ 0x30 + d ∧ 0x30 + d ≤ '9'.toNat :=
    ⟨Nat.le_add_right 0x30 d, Nat.add_le_add_left (Nat.le_of_lt_succ hd) 0x30⟩
  rw [natOfDigits, toNat_decChar hd, if_pos hrange]
  exact congrArg (fun e => natOfDigits (10 * k + e) cs) (Nat.add_sub_cancel_left ..)

/-- Reading `n`'s digits leaves `n` in front of what follows them. -/
theorem natOfDigits_decDigits {fuel n : Nat} (hfuel : n < fuel) (acc : List Char) :
    natOfDigits 0 (decDigits fuel n acc) = natOfDigits n acc := by
  induction fuel generalizing n acc with
  | zero => omega
  | succ fuel ih =>
    by_cases hn : n < 10
    · rw [decDigits_of_lt_ten fuel hn, natOfDigits_decChar_cons 0 hn, Nat.mul_zero, Nat.zero_add]
    · have hdigit : n % 10 < 10 := Nat.mod_lt n (by decide)
      rw [decDigits_of_ten_le fuel hn, ih (by omega), natOfDigits_decChar_cons _ hdigit, Nat.div_add_mod]

/-- No leading zero: the first digit of a positive number is positive. -/
theorem head?_decDigits {fuel n : Nat} (hfuel : n < fuel) (hpos : 0 < n) (acc : List Char) :
    ∃ d, 0 < d ∧ d < 10 ∧ (decDigits fuel n acc).head? = some (Char.ofNat (0x30 + d)) := by
  induction fuel generalizing n acc with
  | zero => omega
  | succ fuel ih =>
    by_cases hn : n < 10
    · exact ⟨n, hpos, hn, by rw [decDigits_of_lt_ten fuel hn, List.head?_cons]⟩
    · rw [decDigits_of_ten_le fuel hn]
      exact ih (by omega) (by omega) _

theorem all_isAscii_decDigits (fuel n : Nat) (acc : List Char) (hacc : acc.all isAscii = true) :
    (decDigits fuel n acc).all isAscii = true := by
  induction fuel generalizing n acc with
  | zero => exact hacc
  | succ fuel ih =>
    have hdigit : isAscii (Char.ofNat (0x30 + n % 10)) = true := by
      rw [isAscii, toNat_decChar (Nat.mod_lt n (by decide)), decide_eq_true_eq]
      omega
    have hcons : (Char.ofNat (0x30 + n % 10) :: acc).all isAscii = true := by
      rw [List.all_cons, hdigit, hacc, Bool.and_self]
    unfold decDigits
    split
    · exact hcons
    · exact ih _ _ hcons

/-! ### Canonical decimal forms read back -/

theorem head?_decDigits_ne {fuel n : Nat} (hfuel : n < fuel) (hpos : 0 < n) {c : Char} (hc : c.toNat ≤ 0x30) :
    (decDigits fuel n []).head? ≠ some c := by
  obtain ⟨d, hd0, hd, hhead⟩ := head?_decDigits hfuel hpos []
  intro h
  have hchar : Char.ofNat (0x30 + d) = c := Option.some.inj (hhead.symm.trans h)
  have hnat := toNat_decChar hd
  rw [hchar] at hnat
  omega

theorem natOfCanonical_decDigits {fuel n : Nat} (hfuel : n < fuel) (hpos : 0 < n) :
    natOfCanonical (decDigits fuel n []) = some n := by
  obtain ⟨d, -, -, hhead⟩ := head?_decDigits hfuel hpos []
  have hnil : decDigits fuel n [] ≠ [] := fun h => by
    rw [h] at hhead
    cases hhead
  have hlead : (decDigits fuel n []).head? ≠ some '0' := head?_decDigits_ne hfuel hpos (by decide)
  rw [natOfCanonical, if_neg (not_or.2 ⟨hnil, fun h => hlead h.1⟩), natOfDigits_decDigits hfuel]
  rfl

theorem intOfCanonical_of_head?_ne {cs : List Char} (h : cs.head? ≠ some '-') :
    intOfCanonical cs = (natOfCanonical cs).map fun m => (m : Int) := by
  unfold intOfCanonical
  split
  · exact absurd rfl h
  · rfl

theorem intOfCanonical_minus_cons {ds : List Char} (h : ds ≠ ['0']) :
    intOfCanonical ('-' :: ds) = (natOfCanonical ds).map fun m => -(m : Int) := by
  rw [intOfCanonical, if_neg h]

theorem intOfCanonical_decimal (n : Int) : intOfCanonical (decimal n) = some n := by
  match n with
  | .ofNat 0 => rfl
  | .ofNat (m + 1) =>
    have hminus : (decimal (.ofNat (m + 1))).head? ≠ some '-' :=
      head?_decDigits_ne (Nat.lt_succ_self _) m.succ_pos (by decide)
    rw [intOfCanonical_of_head?_ne hminus, decimal, natOfCanonical_decDigits (Nat.lt_succ_self _) m.succ_pos]
    rfl
  | .negSucc m =>
    have hzero : decDigits (m + 2) (m + 1) [] ≠ ['0'] := fun h =>
      head?_decDigits_ne (Nat.lt_succ_self _) m.succ_pos (c := '0') (by decide) (by rw [h, List.head?_cons])
    rw [decimal, intOfCanonical_minus_cons hzero, natOfCanonical_decDigits (Nat.lt_succ_self _) m.succ_pos]
    rfl

theorem exec_fmtArg (v : Value) (s : State) : exec (.fmtArg v) s = .next (s.setReply (.text (fmtArg v))) := rfl

/-! ### What `ENCODE_REQUEST` refuses -/

theorem all_isAscii_decimal (n : Int) : (decimal n).all isAscii = true := by
  cases n with
  | ofNat m => exact all_isAscii_decDigits _ _ [] rfl
  | negSucc m =>
    have hdigits := all_isAscii_decDigits (m + 2) (m + 1) [] rfl
    rw [decimal, List.all_cons, hdigits]
    rfl

theorem encodable_eq_not_nonAsciiArg (v : Value) : encodable v = !nonAsciiArg v := by
  cases v with
  | bool b => cases b <;> rfl
  | int n => exact all_isAscii_decimal n
  | str x =>
    have hchar : isAscii = fun c => !decide (0x7F < c.toNat) := by
      funext c
      rw [isAscii, ← decide_not, decide_eq_decide, Nat.not_lt]
    rw [nonAsciiArg, List.not_any_eq_all_not, encodable, fmtArg, hchar]

theorem all_encodable_eq_not_any_nonAsciiArg (args : List Value) : args.all encodable = !args.any nonAsciiArg := by
  rw [List.not_any_eq_all_not]
  exact congrArg args.all (funext encodable_eq_not_nonAsciiArg)

theorem encodeRequest_of_nonAscii (address : Option Byte) (fn : Word16) {args : List Value}
    (h : args.any nonAsciiArg = true) : encodeRequest address fn args = none := by
  rw [encodeRequest, all_encodable_eq_not_any_nonAsciiArg, h]
  rfl

theorem encodeRequest_of_ascii (address : Option Byte) (fn : Word16) {args : List Value}
    (h : args.any nonAsciiArg = false) :
    encodeRequest address fn args
      = some (mkPacket (requestPayload address fn (args.map fun v => asciiBytes (fmtArg v)))) := by
  rw [encodeRequest, all_encodable_eq_not_any_nonAsciiArg, h]
  rfl

@[simp] theorem payloadOf_mkPacket (payload : Bytes) : payloadOf (mkPacket payload) = payload := rfl

theorem exec_encodeRequest_of_none {address : Option Byte} {fn : Word16} {args : List Value}
    (h : encodeRequest address fn args = none) (s : State) :
    exec (.encodeRequest address fn args) s = .next (s.setReply .encodeError) := by
  change execEncodeRequest address fn args s = _
  rw [execEncodeRequest, h]

theorem exec_encodeRequest_of_some {address : Option Byte} {fn : Word16} {args : List Value} {packet : Bytes}
    (h : encodeRequest address fn args = some packet) (s : State) :
    exec (.encodeRequest address fn args) s
      = .next ((s.setCrc (crc16 (payloadOf packet) seed0)).setReply (.bytes packet)) := by
  change execEncodeRequest address fn args s = _
  rw [execEncodeRequest, h]
  rfl

end Sys2Proof.Machine

namespace Sys2Proof
open Machine

/-- Settles O14: the digits `decDigits` gives have no leading zero and read back as the number. -/
theorem argumentsRenderCanonically : Obligations.ArgumentsRenderCanonically := by
  unfold Obligations.ArgumentsRenderCanonically
  intro s
  exact ⟨exec_fmtArg (.bool true) s, exec_fmtArg (.bool false) s,
    fun n => ⟨decimal n, exec_fmtArg (.int n) s, intOfCanonical_decimal n⟩, fun x => exec_fmtArg (.str x) s⟩

/-- Settles O16: Booleans and integers render in ASCII, so only a string can be refused. -/
theorem encodeRequestRefusesExactlyNonAscii : Obligations.EncodeRequestRefusesExactlyNonAscii := by
  unfold Obligations.EncodeRequestRefusesExactlyNonAscii
  refine fun s address fn args => ⟨fun h => ?_, fun h => ⟨_, rfl, ?_⟩⟩
  · exact exec_encodeRequest_of_none (encodeRequest_of_nonAscii address fn h) s
  · rw [exec_encodeRequest_of_some (encodeRequest_of_ascii address fn h) s, payloadOf_mkPacket, mkPacket]

end Sys2Proof
end

section
/-!
PROOFS. The stream synchronizer (42_frame_acquirer.md R191 to R198): what each event does in each state, by equations
of the model's operations, and what an operation on the current session and its link leaves alone elsewhere.
-/

namespace Sys2Proof.Machine

/-! ### What changes elsewhere -/

theorem SameElsewhere.refl (s : State) : SameElsewhere s s where
  cfg := rfl
  crc := rfl
  registry := rfl
  locks := rfl
  sent := rfl
  cur := rfl
  agenda := rfl
  reply := rfl
  free := rfl
  sessions := fun _ _ => rfl
  rx := fun _ _ => rfl
  tx := fun _ _ => rfl

theorem SameElsewhere.setSess {s t : State} (h : SameElsewhere s t) (se : Session) :
    SameElsewhere s (t.setSess se) :=
  { h with
    sessions := fun sid hsid => by
      rw [State.session_setSess_other t se (h.cur ▸ hsid), h.sessions sid hsid] }

theorem SameElsewhere.setRx {s t : State} (h : SameElsewhere s t) (b : Bytes) :
    SameElsewhere s (t.setRx s.sess.linkId b) :=
  { h with rx := fun l hl => by rw [State.rx_setRx_other t b hl, h.rx l hl] }

theorem SameElsewhere.setTx {s t : State} (h : SameElsewhere s t) (b : Bytes) :
    SameElsewhere s (t.setTx s.sess.linkId b) :=
  { h with tx := fun l hl => by rw [State.tx_setTx_other t b hl, h.tx l hl] }

/-! ### The buffer's bound -/

theorem bufferFull_eq_true {c : Config} {se : Session} (h : ∃ n, c.rxCap = some n ∧ n ≤ se.rxBuf.length) :
    bufferFull c se = true := by
  obtain ⟨n, hcap, hn⟩ := h
  simp [bufferFull, hcap, hn]

theorem bufferFull_eq_false {c : Config} {se : Session} (h : ∀ n, c.rxCap = some n → se.rxBuf.length < n) :
    bufferFull c se = false := by
  cases hcap : c.rxCap with
  | none => simp [bufferFull, hcap]
  | some n => simp [bufferFull, hcap, h n hcap]

/-! ### Instructions of the synchronizer on an open stream session -/

theorem Session.onStream_eq_true {se : Session} (hopen : se.isOpen = true) (hkind : se.kind = .stream) :
    se.onStream = true := by
  simp [Session.onStream, hopen, hkind]

theorem exec_acquireStream {s : State} (h : s.sess.onStream = true) (e : StreamEvent) :
    exec (.acquireStream e) s = .next (s.onEvent e) :=
  if_pos h

theorem exec_flushRecover {s : State} (h : s.sess.onStream = true)
    (hfs : s.sess.fs = .ck0 ∨ s.sess.fs = .ck1 ∨ s.sess.fs = .body) :
    exec .flushRecover s = .next s.flushRecover :=
  if_pos ⟨h, hfs⟩

/-! ### One byte -/

theorem State.onRxByte_eq_takeByte {s : State} {b : Byte} {rest : Bytes} (hfs : s.sess.fs ≠ .idle)
    (hrx : s.rx s.sess.linkId = b :: rest) :
    s.onRxByte = (s.setRx s.sess.linkId rest).takeByte b := by
  simp [State.onRxByte, hfs, hrx]

theorem exec_rxByte {s t : State} {b : Byte} {rest : Bytes} (h : s.sess.onStream = true)
    (hrx : s.rx s.sess.linkId = b :: rest) (hfs : s.sess.fs ≠ .idle)
    (ht : (s.setRx s.sess.linkId rest).takeByte b = t) :
    exec (.acquireStream .rxByte) s = .next t := by
  rw [exec_acquireStream h, State.onEvent, State.onRxByte_eq_takeByte hfs hrx, ht]

section
variable {s : State} {b : Byte}

theorem State.takeByte_ck0 (hfs : s.sess.fs = .ck0) :
    s.takeByte b = s.setSess { s.sess with rxBuf := [b], fs := .ck1 } := by
  simp [State.takeByte, hfs]

theorem State.takeByte_ck1 (hfs : s.sess.fs = .ck1) :
    s.takeByte b = s.setSess { s.sess with rxBuf := s.sess.rxBuf ++ [b], fs := .body } := by
  simp [State.takeByte, hfs]

theorem State.takeByte_settle (hfs : s.sess.fs = .settle) : s.takeByte b = s := by
  simp [State.takeByte, hfs]

theorem State.takeByte_body_term (hfs : s.sess.fs = .body) (hb : b = s.cfg.term) :
    s.takeByte b = s.setSess { s.sess with termSeen := true, acq := .frame s.sess.rxBuf, fs := .idle } := by
  simp [State.takeByte, hfs, isTerm, hb, State.endBody]

theorem State.takeByte_body_stored (hfs : s.sess.fs = .body) (hb : b ≠ s.cfg.term)
    (hfull : bufferFull s.cfg s.sess = false) :
    s.takeByte b = s.setSess { s.sess with rxBuf := s.sess.rxBuf ++ [b] } := by
  simp [State.takeByte, hfs, isTerm, hb, hfull]

theorem State.takeByte_body_full (hfs : s.sess.fs = .body) (hb : b ≠ s.cfg.term)
    (hfull : bufferFull s.cfg s.sess = true) :
    s.takeByte b = s.flushRecover := by
  simp [State.takeByte, hfs, isTerm, hb, hfull]

end

/-! ### A framing failure and the end of the recovery -/

theorem State.onRxTimeout_eq_flushRecover {s : State}
    (h : s.sess.fs = .ck0 ∨ s.sess.fs = .ck1 ∨ (s.sess.fs = .body ∧ s.sess.termSeen = false)) :
    s.onRxTimeout = s.flushRecover := by
  obtain hfs | hfs | ⟨hfs, hterm⟩ := h
  · simp [State.onRxTimeout, hfs]
  · simp [State.onRxTimeout, hfs]
  · simp [State.onRxTimeout, hfs, State.endBody, hterm]

@[simp] theorem State.sess_flushRecover (s : State) :
    s.flushRecover.sess = { s.sess with rxBuf := [], fs := .settle } :=
  State.sess_setSess _ _

@[simp] theorem State.rx_flushRecover (s : State) : s.flushRecover.rx s.sess.linkId = [] :=
  s.rx_setRx_same s.sess.linkId []

@[simp] theorem State.tx_flushRecover (s : State) : s.flushRecover.tx s.sess.linkId = [] :=
  (s.flushIn s.sess.linkId).tx_setTx_same s.sess.linkId []

theorem sameElsewhere_flushRecover (s : State) : SameElsewhere s s.flushRecover :=
  (((SameElsewhere.refl s).setRx []).setTx []).setSess _

theorem State.onSettleDone_settle {s : State} (hfs : s.sess.fs = .settle) :
    s.onSettleDone = (s.flushIn s.sess.linkId).setSess { s.sess with acq := .noFrame, fs := .idle } :=
  if_pos hfs

end Sys2Proof.Machine

namespace Sys2Proof
open Machine

/-- Settles O23: the byte leaves the queue and reaches `takeByte`, which has one equation for each clause. -/
theorem streamByteByState : Obligations.StreamByteByState := by
  unfold Obligations.StreamByteByState
  intro s b rest hopen hkind hrx
  have hbyte {t : State} := exec_rxByte (t := t) (Session.onStream_eq_true hopen hkind) hrx
  refine ⟨fun hfs => ?_, fun hfs => ?_, fun hfs hterm => ?_, fun hfs hterm hcap => ?_, fun hfs hterm hcap => ?_,
    fun hfs => ?_⟩
  all_goals apply hbyte (by simp [hfs])
  · exact State.takeByte_ck0 hfs
  · exact State.takeByte_ck1 hfs
  · exact State.takeByte_body_term hfs hterm
  · exact State.takeByte_body_stored hfs hterm (bufferFull_eq_false hcap)
  · exact State.takeByte_body_full hfs hterm (bufferFull_eq_true hcap)
  · exact State.takeByte_settle hfs

/-- Settles O24: in each of the three states the timeout is `FLUSH_RECOVER`. -/
theorem timeoutFlushesAndSettles : Obligations.TimeoutFlushesAndSettles := by
  unfold Obligations.TimeoutFlushesAndSettles
  intro s hopen hkind hfail
  have hstream := Session.onStream_eq_true hopen hkind
  have hreading : s.sess.fs = .ck0 ∨ s.sess.fs = .ck1 ∨ s.sess.fs = .body :=
    hfail.imp_right (Or.imp_right And.left)
  refine ⟨s.flushRecover, ?_, exec_flushRecover hstream hreading, s.sess_flushRecover, s.rx_flushRecover,
    s.tx_flushRecover, rfl, sameElsewhere_flushRecover s⟩
  rw [exec_acquireStream hstream, State.onEvent, State.onRxTimeout_eq_flushRecover hfail]

/-- Settles O25: the step leaves the buffer alone, which the session invariant says is empty while the link settles. -/
theorem settleDoneReportsNoFrame : Obligations.SettleDoneReportsNoFrame := by
  unfold Obligations.SettleDoneReportsNoFrame
  intro s hopen hkind hfs
  refine ⟨(s.flushIn s.sess.linkId).setSess { s.sess with acq := .noFrame, fs := .idle }, ?_,
    State.sess_setSess _ _, fun hinv => ?_, s.rx_setRx_same s.sess.linkId [], rfl, rfl,
    ((SameElsewhere.refl s).setRx []).setSess _⟩
  · rw [exec_acquireStream (Session.onStream_eq_true hopen hkind), State.onEvent, State.onSettleDone_settle hfs]
  · rw [State.sess_setSess]
    exact (hinv.sessions s.cur).settle_empty hfs

end Sys2Proof
end

section
/-!
PROOFS. The bus exchange (42_frame_acquirer.md R201 to R205) and the sends (43_retry_engine.md R233, R234): what each
step of the exchange is, as `BUS_EXCHANGE` and as the internal transition.
-/

namespace Sys2Proof.Machine

/-! ### Steps of an exchange on an open bus session -/

theorem Session.onBus_eq_true {se : Session} (hopen : se.isOpen = true) (hkind : se.kind = .bus) :
    se.onBus = true := by
  simp [Session.onBus, hopen, hkind]

section
variable {s : State} (hbus : s.sess.onBus = true)
include hbus

theorem exec_busExchange_idle (hst : s.sess.st = .sending) (hbx : s.sess.bx = .idle) (r : Bytes) :
    exec (.busExchange r) s = .next (s.setSess s.sess.startExchange) := by
  change execBusExchange r s = _
  simp [execBusExchange, hbus, hst, hbx]

theorem exec_busExchange_write (hst : s.sess.st = .sending) (hbx : s.sess.bx = .write) (r : Bytes) :
    exec (.busExchange r) s = .next s.writeRequest := by
  change execBusExchange r s = _
  simp [execBusExchange, hbus, hst, hbx]

theorem exec_busExchange_hdr (hst : s.sess.st = .awaiting) (hbx : s.sess.bx = .hdr) (r : Bytes) :
    exec (.busExchange r) s = .next (s.readHeader r) := by
  change execBusExchange r s = _
  simp [execBusExchange, hbus, hst, hbx]

theorem exec_busExchange_body (hst : s.sess.st = .awaiting) (hbx : s.sess.bx = .body) (r : Bytes) :
    exec (.busExchange r) s = .next (s.readBody r) := by
  change execBusExchange r s = _
  simp [execBusExchange, hbus, hst, hbx]

theorem exec_hdrCheck (hst : s.sess.st = .awaiting) (hbx : s.sess.bx = .hdr) :
    exec .hdrCheck s
      = .next ((s.setSess (s.sess.checkHeader s.cfg)).setReply (.header (headerResult s.cfg s.sess.hdr))) :=
  if_pos (by simp [Session.atHeader, hbus, hst, hbx])

end

theorem Session.startExchange_skipWrite {se : Session} (h : se.skipWrite = true) :
    se.startExchange = { se with
      rxBuf := [], hdrCkOk := false, hdrNak := false, skipWrite := false, bx := .hdr, st := .awaiting } := by
  simp [Session.startExchange, h]

theorem Session.startExchange_write {se : Session} (h : se.skipWrite = false) :
    se.startExchange = { se with rxBuf := [], hdrCkOk := false, hdrNak := false, bx := .write } := by
  simp [Session.startExchange, h]

/-! ### The header check -/

theorem headerCkOk_eq_true {a n c : Byte} (h : c = ~~~(a + n)) : headerCkOk ⟨a, n, c⟩ = true :=
  decide_eq_true h

theorem headerCkOk_eq_false {a n c : Byte} (h : c ≠ ~~~(a + n)) : headerCkOk ⟨a, n, c⟩ = false :=
  decide_eq_false h

section
variable {c : Config} {se : Session}

theorem Session.checkHeader_bad (hck : headerCkOk se.hdr = false) :
    se.checkHeader c = { se with
      hdrCkOk := false, hdrNak := headerIsNak c se.hdr, acq := .hdrBad, bx := .idle } := by
  simp [Session.checkHeader, hck]

theorem Session.checkHeader_nak (hck : headerCkOk se.hdr = true) (hnak : headerIsNak c se.hdr = true) :
    se.checkHeader c = { se with hdrCkOk := true, hdrNak := true, acq := .hdrNak, bx := .idle } := by
  simp [Session.checkHeader, hck, hnak]

theorem Session.checkHeader_good (hck : headerCkOk se.hdr = true) (hnak : headerIsNak c se.hdr = false) :
    se.checkHeader c = { se with hdrCkOk := true, hdrNak := false, bx := .body } := by
  simp [Session.checkHeader, hck, hnak]

end

section
variable {c : Config} {h : Header}

theorem headerResult_bad (hck : headerCkOk h = false) : headerResult c h = .hdrBad :=
  if_pos hck

theorem headerResult_nak (hck : headerCkOk h = true) (hnak : headerIsNak c h = true) :
    headerResult c h = .hdrNak := by
  simp [headerResult, hck, hnak]

theorem headerResult_good (hck : headerCkOk h = true) (hnak : headerIsNak c h = false) :
    headerResult c h = .ok h.length := by
  simp [headerResult, hck, hnak]

end

/-- An answer of three bytes is loaded and checked. -/
theorem State.readHeader_three (s : State) (a n c : Byte) :
    s.readHeader [a, n, c] = (s.logBus s.sess.linkId (.read s.sess.addr 3 [a, n, c])).setSess
      (Session.checkHeader s.cfg { s.sess with hdr := ⟨a, n, c⟩ }) := rfl

/-! ### The body read -/

/-- The environment's answer is taken whole when it is no longer than asked. -/
theorem busAnswer_of_length_le {n : Nat} {r : Bytes} (h : r.length ≤ n) : busAnswer n r = r :=
  List.take_of_length_le h

theorem State.readBody_of_length_le {s : State} {r : Bytes} (h : r.length ≤ s.sess.hdr.length.toNat) :
    s.readBody r = (s.logBus s.sess.linkId (.read s.sess.addr s.sess.hdr.length.toNat r)).setSess
      (s.sess.takeBody r) := by
  simp only [State.readBody, State.busRead, busAnswer_of_length_le h]

theorem Session.takeBody_short {se : Session} {r : Bytes} (h : r.length < se.hdr.length.toNat) :
    se.takeBody r = { se with acq := .noFrame, bx := .idle } :=
  if_pos h

theorem Session.takeBody_full {se : Session} {r : Bytes} (h : se.hdr.length.toNat ≤ r.length) :
    se.takeBody r = { se with rxBuf := r, acq := .frame r, bx := .idle } :=
  if_neg (Nat.not_lt.2 h)

/-! ### The internal transition of a session that is `SENDING` -/

section
variable {s : State} (hopen : s.sess.isOpen = true) (hst : s.sess.st = .sending)
include hopen hst

theorem State.internal_sending : s.internal = s.sendStep := by
  simp [State.internal, hopen, hst]

theorem State.internal_stream_send (hkind : s.sess.kind = .stream) : s.internal = s.sendStream := by
  simp [State.internal_sending hopen hst, State.sendStep, hkind]

theorem State.internal_bus_start (hkind : s.sess.kind = .bus) (hbx : s.sess.bx = .idle) :
    s.internal = s.setSess s.sess.startExchange := by
  simp [State.internal_sending hopen hst, State.sendStep, hkind, hbx]

theorem State.internal_bus_write (hkind : s.sess.kind = .bus) (hbx : s.sess.bx = .write) :
    s.internal = s.writeRequest := by
  simp [State.internal_sending hopen hst, State.sendStep, hkind, hbx]

end

theorem Session.txUnit_original {se : Session} (h : se.txSel = .original) : se.txUnit = se.txPkt := by
  simp [Session.txUnit, h]

theorem Session.txUnit_resendRq {se : Session} (h : se.txSel = .resendRq) : se.txUnit = [0x18, 0x61, 0x45] := by
  simp [Session.txUnit, h, resendPacket]

end Sys2Proof.Machine

namespace Sys2Proof
open Machine

/-- Settles O28: both instructions run `checkHeader` on a session whose register holds the three bytes, which tests
the checksum first. -/
theorem headerChecksumIsTestedBeforeStatus : Obligations.HeaderChecksumIsTestedBeforeStatus := by
  unfold Obligations.HeaderChecksumIsTestedBeforeStatus
  intro s a n c hopen hkind hst hbx
  have hbus := Session.onBus_eq_true hopen hkind
  refine ⟨Session.checkHeader s.cfg { s.sess with hdr := ⟨a, n, c⟩ }, headerResult s.cfg ⟨a, n, c⟩, ?_,
    fun hhdr => ?_, fun hck => ?_, fun hck hnak => ?_, fun hck hnak => ?_⟩
  · rw [exec_busExchange_hdr hbus hst hbx, State.readHeader_three]
  · rw [exec_hdrCheck hbus hst hbx, ← hhdr]
  · have hck := headerCkOk_eq_false hck
    exact ⟨headerResult_bad hck, Session.checkHeader_bad hck⟩
  · have hck := headerCkOk_eq_true hck
    exact ⟨headerResult_nak hck hnak, Session.checkHeader_nak hck hnak⟩
  · have hck := headerCkOk_eq_true hck
    exact ⟨headerResult_good hck hnak, Session.checkHeader_good hck hnak⟩

/-- Settles O29: an answer no longer than declared is recorded whole, and `takeBody` compares its length. -/
theorem bodyOfDeclaredLengthIsTheFrame : Obligations.BodyOfDeclaredLengthIsTheFrame := by
  unfold Obligations.BodyOfDeclaredLengthIsTheFrame
  intro s r hopen hkind hst hbx
  rw [exec_busExchange_body (Session.onBus_eq_true hopen hkind) hst hbx]
  refine ⟨fun hlen => ?_, fun hlen => ?_⟩
  · rw [State.readBody_of_length_le hlen.le, Session.takeBody_full hlen.ge]
  · rw [State.readBody_of_length_le hlen.le, Session.takeBody_short hlen]

/-- Settles O30: `BUS_EXCHANGE` and the internal transition are both `writeRequest`. -/
theorem busWriteSendsThePacket : Obligations.BusWriteSendsThePacket := by
  unfold Obligations.BusWriteSendsThePacket
  intro s r hopen hkind hst hbx
  exact ⟨s.writeRequest, rfl, State.internal_bus_write hopen hst hkind hbx,
    exec_busExchange_write (Session.onBus_eq_true hopen hkind) hst hbx r⟩

/-- Settles O31: the internal transition is `sendStream`, and `tx_sel` chooses the packet it frames. -/
theorem streamSendFramesThePacket : Obligations.StreamSendFramesThePacket := by
  unfold Obligations.StreamSendFramesThePacket
  intro s hopen hkind hst
  refine ⟨s.sess.txUnit, Session.txUnit_original, Session.txUnit_resendRq, ?_⟩
  rw [State.internal_stream_send hopen hst hkind, List.append_assoc]
  rfl

/-- Settles O60: `BUS_EXCHANGE` and the internal transition both write `startExchange`, which splits on
`skip_write`. -/
theorem busExchangeStarts : Obligations.BusExchangeStarts := by
  unfold Obligations.BusExchangeStarts
  intro s r hopen hkind hst hbx
  exact ⟨s.sess.startExchange, exec_busExchange_idle (Session.onBus_eq_true hopen hkind) hst hbx r,
    State.internal_bus_start hopen hst hkind hbx, Session.startExchange_skipWrite, Session.startExchange_write⟩

end Sys2Proof
end

section
/-!
PROOFS. The internal transitions of the retry engine outside `SENDING` (43_retry_engine.md R235, R236, R245, R247), and
the two ways out of `CLASSIFYING` (60_exceptions.md R336).
-/

namespace Sys2Proof.Machine

/-! ### The acquirer at rest and busy -/

theorem Session.acquirerIdle_eq_true {se : Session}
    (h : (se.kind = .stream ∧ se.fs = .idle) ∨ (se.kind = .bus ∧ se.bx = .idle)) : se.acquirerIdle = true := by
  obtain ⟨hkind, hidle⟩ | ⟨hkind, hidle⟩ := h
  · simp [Session.acquirerIdle, hkind, hidle]
  · simp [Session.acquirerIdle, hkind, hidle]

theorem Session.acquirerIdle_eq_false {se : Session}
    (h : (se.kind = .stream ∧ se.fs ≠ .idle) ∨ (se.kind = .bus ∧ se.bx ≠ .idle)) : se.acquirerIdle = false := by
  obtain ⟨hkind, hbusy⟩ | ⟨hkind, hbusy⟩ := h
  · simp [Session.acquirerIdle, hkind, hbusy]
  · simp [Session.acquirerIdle, hkind, hbusy]

/-! ### The internal transition by state -/

section
variable {s : State} (hopen : s.sess.isOpen = true)
include hopen

theorem State.internal_awaiting_idle (hst : s.sess.st = .awaiting) (hidle : s.sess.acquirerIdle = true) :
    s.internal = s.setSess s.sess.acquired := by
  simp [State.internal, hopen, hst, hidle]

theorem State.internal_awaiting_busy (hst : s.sess.st = .awaiting) (hbusy : s.sess.acquirerIdle = false) :
    s.internal = s := by
  simp [State.internal, hopen, hst, hbusy]

theorem State.internal_classifying (hst : s.sess.st = .classifying) : s.internal = s.classifyStep := by
  simp [State.internal, hopen, hst]

theorem State.internal_retry (hst : s.sess.st = .retry) : s.internal = s.setSess { s.sess with st := .sending } := by
  simp [State.internal, hopen, hst]

theorem State.internal_callOver (hst : s.sess.st = .success ∨ s.sess.st = .fatal) :
    s.internal = s.endCall s.sess := by
  obtain hst | hst := hst
  · simp [State.internal, hopen, hst]
  · simp [State.internal, hopen, hst]

theorem exec_classify (hst : s.sess.st = .classifying) :
    exec .classify s = .next (s.classifyStep.setReply (classified (s.sess.classify s.cfg))) :=
  if_pos (by simp [Session.atClassify, hopen, hst])

end

/-! ### The end of a call -/

@[simp] theorem State.sess_endCall (s : State) (se : Session) : (s.endCall se).sess = { se with st := .idle } :=
  State.sess_setSess _ _

@[simp] theorem State.reply_endCall (s : State) (se : Session) : (s.endCall se).reply = replyOf se.result := rfl

@[simp] theorem State.lockOf_endCall_same (s : State) (se : Session) : (s.endCall se).lockOf se.linkId = none :=
  s.lockOf_freeLock_same se.linkId

theorem State.lockOf_endCall_other (s : State) {se : Session} {l : LinkId} (h : l ≠ se.linkId) :
    (s.endCall se).lockOf l = s.lockOf l :=
  s.lockOf_freeLock_other h

/-! ### The classifier's checksum leaves locks and reply -/

@[simp] theorem State.locks_checkAcquired (s : State) : s.checkAcquired.locks = s.locks := by
  rw [State.checkAcquired_eq, State.setCrc_locks]

@[simp] theorem State.reply_checkAcquired (s : State) : s.checkAcquired.reply = s.reply := by
  rw [State.checkAcquired_eq, State.setCrc_reply]

@[simp] theorem State.lockOf_checkAcquired (s : State) (l : LinkId) : s.checkAcquired.lockOf l = s.lockOf l :=
  congrArg (Assoc.get? l) s.locks_checkAcquired

/-! ### The two ways out of `CLASSIFYING` -/

theorem State.classifyStep_goesOn {s : State} (h : (s.sess.classify s.cfg).st ≠ .fatal) :
    s.classifyStep = s.checkAcquired.setSess (s.sess.classify s.cfg) :=
  State.leaveClassifying_goesOn h _

theorem State.classifyStep_raised {s : State} (h : (s.sess.classify s.cfg).st = .fatal) :
    s.classifyStep = s.checkAcquired.endCall (s.sess.classify s.cfg) :=
  State.leaveClassifying_raised h _

end Sys2Proof.Machine

namespace Sys2Proof
open Machine

/-- Settles O34: the internal transition in `AWAITING` asks whether the acquirer is idle, in `RETRY` nothing. -/
theorem attemptEndsAndRetryStarts : Obligations.AttemptEndsAndRetryStarts := by
  unfold Obligations.AttemptEndsAndRetryStarts
  intro s hopen
  refine ⟨fun hst hidle => ?_, fun hst hbusy => ?_, State.internal_retry hopen⟩
  · exact State.internal_awaiting_idle hopen hst (Session.acquirerIdle_eq_true hidle)
  · exact State.internal_awaiting_busy hopen hst (Session.acquirerIdle_eq_false hbusy)

/-- Settles O35: in `SUCCESS` and `FATAL` the transition is `endCall`; from `CLASSIFYING` it is `endCall` on what the
classifier leaves exactly where `Session.Outcome` has an error raised. -/
theorem endOfCallFreesLockAndHandsResult : Obligations.EndOfCallFreesLockAndHandsResult := by
  unfold Obligations.EndOfCallFreesLockAndHandsResult
  intro s hopen
  refine ⟨fun hst => ?_, fun hst => ?_⟩
  · rw [State.internal_callOver hopen hst]
    refine ⟨replyOf s.sess.result, rfl, fun v hv => ?_, fun tag a d herr => ?_, s.lockOf_endCall_same s.sess,
      fun l => s.lockOf_endCall_other⟩
    · rw [hv, replyOf]
    · rw [herr, replyOf]
  · rw [State.internal_classifying hopen hst]
    obtain hretry | ⟨hsuccess, -⟩ | ⟨hfatal, tag, d, cls, hresult, htrace⟩ := Session.classify_outcome s.cfg s.sess
    · rw [State.classifyStep_goesOn (by simp [hretry])]
      exact .inl (by simp [hretry])
    · rw [State.classifyStep_goesOn (by simp [hsuccess])]
      exact .inl (by simp [hsuccess])
    · rw [State.classifyStep_raised hfatal, State.sess_endCall, State.reply_endCall,
        ← Session.classify_linkId s.cfg s.sess]
      refine .inr ⟨rfl, State.lockOf_endCall_same _ _, fun l hl => ?_, tag, d, cls, hresult, htrace, ?_⟩
      · rw [State.lockOf_endCall_other _ hl, State.lockOf_checkAcquired]
      · rw [hresult, replyOf]

end Sys2Proof
end

section
/-!
PROOFS. The classes of the retry engine (43_retry_engine.md R237 to R244): the class each acquisition has, and what the
internal transition and `CLASSIFY` do once the classifier has retried, raised an error or succeeded.
-/

namespace Sys2Proof.Machine

/-! ### What `CLASSIFY` returns -/

theorem classified_raiseError (se : Session) (cls : TraceClass) (tag : ErrTag) (d : Bytes) :
    classified (se.raiseError cls tag d) = .classifiedRaised cls .none tag se.addr d := by
  simp [classified]

theorem classified_of_trace {se : Session} {l : List TraceRecord} {r : TraceRecord} (htrace : se.trace = l ++ [r])
    (hst : se.st ≠ .fatal) : classified se = .classified r.cls se.st r.action := by
  simp [classified, htrace, hst]

/-! ### The class of an acquisition -/

section
variable {se : Session} (c : Config)

theorem Session.classify_noFrame (hacq : se.acq = .noFrame) : se.classify c = se.class1 c := by
  simp [Session.classify, hacq]

theorem Session.classify_hdrBad (hacq : se.acq = .hdrBad) : se.classify c = se.classHdrBad c := by
  simp [Session.classify, hacq]

theorem Session.classify_hdrNak (hacq : se.acq = .hdrNak) : se.classify c = se.classHdrNak c := by
  simp [Session.classify, hacq]

theorem Session.classify_corruptFrame {p : Bytes} (hacq : se.acq = .frame p) (hbad : verify p = false) :
    se.classify c = { se with ckOk := false }.class2 c := by
  simp [Session.classify, hacq, Session.classFrame, hbad]

theorem Session.classify_validFrame {p : Bytes} (hacq : se.acq = .frame p) (hgood : verify p = true) :
    se.classify c = { se with ckOk := true }.classStatus c (payloadOf p) := by
  simp [Session.classify, hacq, Session.classFrame, hgood]

theorem Session.classStatus_E (rest : Bytes) : se.classStatus c (0x45 :: rest) = se.class3 c := rfl

theorem Session.classStatus_S (rest : Bytes) : se.classStatus c (0x53 :: rest) = se.class4 (0x53 :: rest) := rfl

theorem Session.classStatus_F (rest : Bytes) : se.classStatus c (0x46 :: rest) = se.class5 (0x46 :: rest) := rfl

theorem Session.classStatus_reserved {b : Byte} (rest : Bytes) (hE : b ≠ 0x45) (hS : b ≠ 0x53) (hF : b ≠ 0x46) :
    se.classStatus c (b :: rest) = se.class6 :=
  (if_neg hE).trans ((if_neg hS).trans (if_neg hF))

end

/-! ### The checksum of an acquisition -/

section
variable {s : State}

theorem State.checkAcquired_noFrame (hacq : s.sess.acq = .noFrame) : s.checkAcquired = s := by
  simp [State.checkAcquired, hacq]

theorem State.checkAcquired_hdrBad (hacq : s.sess.acq = .hdrBad) : s.checkAcquired = s := by
  simp [State.checkAcquired, hacq]

theorem State.checkAcquired_hdrNak (hacq : s.sess.acq = .hdrNak) : s.checkAcquired = s := by
  simp [State.checkAcquired, hacq]

theorem State.checkAcquired_frame {p : Bytes} (hacq : s.sess.acq = .frame p) : s.checkAcquired = s.runVerify p := by
  simp [State.checkAcquired, hacq]

end

/-! ### A valid frame -/

theorem verify_beBytes_cons {ck : Word16} {b : Byte} {rest : Bytes} (hck : crc16 (b :: rest) seed0 = ck) :
    verify (beBytes ck ++ b :: rest) = true :=
  (verify_cons_cons _ _ (List.cons_ne_nil b rest)).trans (decide_eq_true (hck.trans (be16_extractLsb' ck).symm))

/-- The checksum unit is left with the checksum in front of the frame. -/
theorem State.checkAcquired_validFrame {s : State} {ck : Word16} {b : Byte} {rest : Bytes}
    (hacq : s.sess.acq = .frame (beBytes ck ++ b :: rest)) (hck : crc16 (b :: rest) seed0 = ck) :
    s.checkAcquired = s.setCrc ck := by
  rw [State.checkAcquired_frame hacq, ← hck]
  exact s.runVerify_cons_cons _ _ (List.cons_ne_nil b rest)

/-- The class of a valid frame is that of the byte after its checksum. -/
theorem Session.classify_statusByte {se : Session} {ck : Word16} {b : Byte} {rest : Bytes} (c : Config)
    (hacq : se.acq = .frame (beBytes ck ++ b :: rest)) (hck : crc16 (b :: rest) seed0 = ck) :
    se.classify c = { se with ckOk := true }.classStatus c (b :: rest) :=
  se.classify_validFrame c hacq (verify_beBytes_cons hck)

/-! ### What a retry prepares -/

theorem Session.prepareClass2_eq (se : Session) :
    se.prepareClass2 = { se with txSel := if se.kind = .stream then .resendRq else .original } := by
  cases hkind : se.kind with
  | stream => simp [Session.prepareClass2, hkind]
  | bus => simp [Session.prepareClass2, hkind]

theorem Session.prepareHeader_eq (c : Config) (se : Session) :
    se.prepareHeader c = { se with skipWrite := se.skipWrite || decide (c.busHdrPolicy = .readOnly) } := by
  cases hpolicy : c.busHdrPolicy with
  | rewrite => simp [Session.prepareHeader, hpolicy]
  | readOnly => simp [Session.prepareHeader, hpolicy]

theorem headerAction_readOnly {c : Config} (h : c.busHdrPolicy = .readOnly) : headerAction c = .rereadHeader := by
  simp [headerAction, h]

theorem headerAction_rewrite {c : Config} (h : c.busHdrPolicy = .rewrite) : headerAction c = .redoExchange := by
  simp [headerAction, h]

theorem class2Action_stream {k : Kind} (h : k = .stream) : class2Action k = .sendRqResend := by
  rw [h, class2Action]

theorem class2Action_bus {k : Kind} (h : k = .bus) : class2Action k = .redoExchange := by
  rw [h, class2Action]

/-! ### The step that leaves `CLASSIFYING`, by the classifier's result

`t` is the state with the classifier's checksum in `crc`. -/

section
variable {s t : State} (hopen : s.sess.isOpen = true) (hst : s.sess.st = .classifying) (hck : s.checkAcquired = t)
include hopen hst hck

/-- No error: the registers are the classifier's. -/
theorem State.classifying_goesOn {se : Session} {l : List TraceRecord} {r : TraceRecord}
    (hcls : s.sess.classify s.cfg = se) (htrace : se.trace = l ++ [r]) (hse : se.st ≠ .fatal) :
    s.internal = t.setSess se ∧
    exec .classify s = .next ((t.setSess se).setReply (.classified r.cls se.st r.action)) := by
  have hstep : s.classifyStep = t.setSess se := by
    rw [State.classifyStep_goesOn (hcls ▸ hse), hck, hcls]
  constructor
  · rw [State.internal_classifying hopen hst, hstep]
  · rw [exec_classify hopen hst, hstep, hcls, classified_of_trace htrace hse]

/-- An error: the call ends in the same step. -/
theorem State.classifying_raised {se : Session} {cls : TraceClass} {tag : ErrTag} {d : Bytes}
    (hcls : s.sess.classify s.cfg = se.raiseError cls tag d) :
    s.internal = ((t.freeLock se.linkId).setReply (.raised tag se.addr d)).setSess
      { se.raiseError cls tag d with st := .idle } ∧
    exec .classify s = .next (s.internal.setReply (.classifiedRaised cls .none tag se.addr d)) := by
  have hfatal : (s.sess.classify s.cfg).st = .fatal := by rw [hcls, Session.raiseError_st]
  constructor
  · rw [State.internal_classifying hopen hst, State.classifyStep_raised hfatal, hck, hcls]
    rfl
  · rw [exec_classify hopen hst, State.internal_classifying hopen hst, hcls, classified_raiseError]

/-- A recoverable failure on both sides of the budget (R237 to R239, R243, R244). `retried` says of the registers and
the action what the class prepares, `failed` of the registers how the call ended. -/
theorem State.classifying_retryOrFail {se : Session} {cls : TraceClass} {a : TraceAction}
    {prepare : Session → Session} {tag : ErrTag} {d : Bytes}
    (hcls : s.sess.classify s.cfg = se.retryOrFail s.cfg cls a prepare tag d)
    (hcall : se.attempts = s.sess.attempts ∧ se.linkId = s.sess.linkId ∧ se.addr = s.sess.addr)
    {retried : Session → TraceAction → Prop} {failed : Session → Bytes → Prop}
    (hretried : retried { (prepare se).record cls a with st := .retry } a)
    (hfailed : failed { se.raiseError cls tag d with st := .idle } d) :
    ∃ (se' : Session) (a' : TraceAction),
      (s.sess.attempts.toNat < s.cfg.maxRetries →
        s.internal = t.setSess se' ∧
        exec .classify s = .next ((t.setSess se').setReply (.classified cls .retry a')) ∧ retried se' a') ∧
      (s.cfg.maxRetries ≤ s.sess.attempts.toNat → ∃ d' : Bytes,
        d' = d ∧
        s.internal = ((t.freeLock s.sess.linkId).setReply (.raised tag s.sess.addr d')).setSess se' ∧
        exec .classify s = .next (s.internal.setReply (.classifiedRaised cls .none tag s.sess.addr d')) ∧
        failed se' d') := by
  obtain ⟨hattempts, hlink, haddr⟩ := hcall
  rw [← hattempts, ← hlink, ← haddr]
  by_cases hlt : se.attempts.toNat < s.cfg.maxRetries
  · rw [Session.retryOrFail_budget (decide_eq_true hlt)] at hcls
    obtain ⟨hinternal, hexec⟩ := State.classifying_goesOn hopen hst hck hcls rfl (by simp)
    exact ⟨_, a, fun _ => ⟨hinternal, hexec, hretried⟩, fun hge => absurd hlt hge.not_gt⟩
  · rw [Session.retryOrFail_exhausted (decide_eq_false hlt)] at hcls
    obtain ⟨hinternal, hexec⟩ := State.classifying_raised hopen hst hck hcls
    exact ⟨_, a, fun h => absurd h hlt, fun _ => ⟨d, rfl, hinternal, hexec, hfailed⟩⟩

end

end Sys2Proof.Machine

namespace Sys2Proof
open Machine

/-- Settles O36: class 1 is a recoverable failure that selects the original request. -/
theorem classOneNoFrame : Obligations.ClassOneNoFrame := by
  unfold Obligations.ClassOneNoFrame
  intro s hopen hst hacq
  exact State.classifying_retryOrFail hopen hst (State.checkAcquired_noFrame hacq)
    (Session.classify_noFrame s.cfg hacq) ⟨rfl, rfl, rfl⟩ ⟨rfl, rfl⟩ rfl

/-- Settles O37: class 2 is a recoverable failure whose recovery is the kind's. -/
theorem classTwoCorruptFrame : Obligations.ClassTwoCorruptFrame := by
  unfold Obligations.ClassTwoCorruptFrame
  intro s p hopen hst hacq hbad
  refine State.classifying_retryOrFail hopen hst (State.checkAcquired_frame hacq)
    (Session.classify_corruptFrame s.cfg hacq hbad) ⟨rfl, rfl, rfl⟩
    ⟨class2Action_stream, class2Action_bus, ?_⟩ rfl
  rw [Session.prepareClass2_eq]
  rfl

/-- Settles O38: class 3 is a recoverable failure that selects the original request. -/
theorem classThreeNegativeAcknowledgement : Obligations.ClassThreeNegativeAcknowledgement := by
  unfold Obligations.ClassThreeNegativeAcknowledgement
  intro s ck rest hopen hst hacq hck
  exact State.classifying_retryOrFail hopen hst (State.checkAcquired_validFrame hacq hck)
    ((Session.classify_statusByte s.cfg hacq hck).trans (Session.classStatus_E s.cfg rest))
    ⟨rfl, rfl, rfl⟩ ⟨rfl, rfl⟩ rfl

/-- Settles O39: class 4 raises nothing. -/
theorem classFourSuccess : Obligations.ClassFourSuccess := by
  unfold Obligations.ClassFourSuccess
  intro s ck rest hopen hst hacq hck
  have hcls := (Session.classify_statusByte s.cfg hacq hck).trans (Session.classStatus_S s.cfg rest)
  obtain ⟨hinternal, hexec⟩ :=
    State.classifying_goesOn hopen hst (State.checkAcquired_validFrame hacq hck) hcls rfl (by simp [Session.class4])
  exact ⟨_, hinternal, hexec, rfl⟩

/-- Settles O40: class 5 raises an error without asking the budget. -/
theorem classFiveRemoteCallFault : Obligations.ClassFiveRemoteCallFault := by
  unfold Obligations.ClassFiveRemoteCallFault
  intro s ck rest hopen hst hacq hck
  have hcls := (Session.classify_statusByte s.cfg hacq hck).trans (Session.classStatus_F s.cfg rest)
  obtain ⟨hinternal, hexec⟩ :=
    State.classifying_raised hopen hst (State.checkAcquired_validFrame hacq hck) hcls
  exact ⟨_, _, rfl, hinternal, hexec, rfl⟩

/-- Settles O41: class 6 raises an error without asking the budget. -/
theorem classSixUnrecognizedHeader : Obligations.ClassSixUnrecognizedHeader := by
  unfold Obligations.ClassSixUnrecognizedHeader
  intro s ck b rest hopen hst hacq hck hE hS hF
  have hcls := (Session.classify_statusByte s.cfg hacq hck).trans (Session.classStatus_reserved s.cfg rest hE hS hF)
  obtain ⟨hinternal, hexec⟩ :=
    State.classifying_raised hopen hst (State.checkAcquired_validFrame hacq hck) hcls
  exact ⟨_, _, rfl, hinternal, hexec, rfl⟩

/-- Settles O42: a recoverable failure whose recovery is the policy's. -/
theorem headerChecksumFailureIsClassTwo : Obligations.HeaderChecksumFailureIsClassTwo := by
  unfold Obligations.HeaderChecksumFailureIsClassTwo
  intro s hopen hst hacq
  refine State.classifying_retryOrFail hopen hst (State.checkAcquired_hdrBad hacq)
    (Session.classify_hdrBad s.cfg hacq) ⟨rfl, rfl, rfl⟩ ⟨headerAction_readOnly, headerAction_rewrite, ?_⟩ rfl
  rw [Session.prepareHeader_eq]
  rfl

/-- Settles O43: a recoverable failure whose recovery is the policy's. -/
theorem headerNakIsClassThree : Obligations.HeaderNakIsClassThree := by
  unfold Obligations.HeaderNakIsClassThree
  intro s hopen hst hacq
  refine State.classifying_retryOrFail hopen hst (State.checkAcquired_hdrNak hacq)
    (Session.classify_hdrNak s.cfg hacq) ⟨rfl, rfl, rfl⟩ ⟨headerAction_readOnly, headerAction_rewrite, ?_⟩ rfl
  rw [Session.prepareHeader_eq]
  rfl

end Sys2Proof
end

section
/-!
PROOFS. The start of a call (43_retry_engine.md R231) and the call that cannot be encoded (60_exceptions.md R337).
-/

namespace Sys2Proof.Machine

theorem exec_call_starts {s : State} (hopen : s.sess.isOpen = true) (hst : s.sess.st = .idle)
    (hwaiting : s.sess.waiting = none) (hlock : s.lockOf s.sess.linkId = none) (fn : Word16) (args : List Value) :
    exec (.call fn args) s = .next (s.startCall fn args) := by
  have hrefusal : s.sess.refusal = none := Session.refusal_none.2 ⟨hopen, hst, hwaiting⟩
  change execCall fn args s = _
  simp [execCall, hrefusal, hlock]

theorem Session.encodeAddress_eq (se : Session) :
    se.encodeAddress = if se.kind = .stream then some se.addr else none := by
  cases hkind : se.kind with
  | stream => simp [Session.encodeAddress, hkind]
  | bus => simp [Session.encodeAddress, hkind]

theorem State.startCall_of_ascii (s : State) (fn : Word16) {args : List Value} (h : args.any nonAsciiArg = false)
    {payload : Bytes}
    (hpayload : payload = requestPayload s.sess.encodeAddress fn (args.map fun v => asciiBytes (fmtArg v))) :
    s.startCall fn args = ((s.setCrc (crc16 payload seed0)).takeLock s.sess.linkId).setSess
      (s.sess.startCall (mkPacket payload)) := by
  simp only [State.startCall, encodeRequest_of_ascii _ fn h, ← hpayload, payloadOf_mkPacket, State.runCrc]

theorem State.startCall_of_nonAscii (s : State) (fn : Word16) {args : List Value} (h : args.any nonAsciiArg = true) :
    s.startCall fn args = (s.setReply (.raised .encodeError s.sess.addr (Config.freeDetail s.free))).bumpFree.setSess
      { s.sess with waiting := none } := by
  simp only [State.startCall, encodeRequest_of_nonAscii _ fn h]

/-- Writing back the current session's registers leaves every session. -/
theorem State.session_setSess_sess (s : State) (sid : SessId) : (s.setSess s.sess).session sid = s.session sid := by
  rw [State.session_setSess]
  split
  · subst sid
    rfl
  · rfl

theorem State.session_startCall_of_nonAscii {s : State} (hwaiting : s.sess.waiting = none) (fn : Word16)
    {args : List Value} (h : args.any nonAsciiArg = true) (sid : SessId) :
    (s.startCall fn args).session sid = s.session sid := by
  rw [State.startCall_of_nonAscii s fn h, ← hwaiting]
  exact s.session_setSess_sess sid

end Sys2Proof.Machine

namespace Sys2Proof
open Machine

/-- Settles O44: the call starts, and `startCall` has one equation for a packet and one for a refusal. -/
theorem callStartsWithCleanCounters : Obligations.CallStartsWithCleanCounters := by
  unfold Obligations.CallStartsWithCleanCounters
  intro s fn args hopen hst hwaiting hlock
  rw [exec_call_starts hopen hst hwaiting hlock, ← Session.encodeAddress_eq]
  refine ⟨fun hascii => ⟨_, rfl, ?_⟩, fun hnonAscii => ⟨_, rfl, ?_, ?_⟩⟩
  · rw [State.startCall_of_ascii s fn hascii rfl, Session.startCall, ← hwaiting]
    rfl
  · rw [State.startCall_of_nonAscii s fn hnonAscii]
    rfl
  · exact State.session_startCall_of_nonAscii hwaiting fn hnonAscii

end Sys2Proof
end

section
/-!
PROOFS. The response parser (44_response_parser.md R281, R283, R285): `splitFields` gives the `SEP`-free pieces that
join back to its bytes, and the number of pieces, which chooses the form of the result, is one exactly without `SEP`.
-/

namespace Sys2Proof.Machine

/-! ### Splitting at `SEP` -/

theorem joinFields_cons (f : Bytes) {fs : List Bytes} (h : fs ≠ []) :
    joinFields (f :: fs) = f ++ sep :: joinFields fs := by
  cases fs with
  | nil => exact absurd rfl h
  | cons g gs => rfl

theorem joinFields_byte_cons (b : Byte) (f : Bytes) (fs : List Bytes) :
    joinFields ((b :: f) :: fs) = b :: joinFields (f :: fs) := by
  cases fs <;> rfl

theorem splitFields_sep_cons (bs : Bytes) : splitFields (sep :: bs) = [] :: splitFields bs := by
  rw [splitFields, if_pos rfl]

theorem splitFields_byte_cons {b : Byte} (hb : b ≠ sep) {bs f : Bytes} {fs : List Bytes}
    (h : splitFields bs = f :: fs) : splitFields (b :: bs) = (b :: f) :: fs := by
  rw [splitFields, if_neg hb, h]

/-- Splitting loses no byte (R12). -/
theorem joinFields_splitFields (bs : Bytes) : joinFields (splitFields bs) = bs := by
  induction bs with
  | nil => rfl
  | cons b bs ih =>
    by_cases hb : b = sep
    · subst b
      rw [splitFields_sep_cons, joinFields_cons [] (splitFields_ne_nil bs), ih, List.nil_append]
    · obtain ⟨f, fs, hsplit⟩ := List.exists_cons_of_ne_nil (splitFields_ne_nil bs)
      rw [splitFields_byte_cons hb hsplit, joinFields_byte_cons, ← hsplit, ih]

theorem sep_notMem_of_mem_splitFields (bs : Bytes) : ∀ f ∈ splitFields bs, sep ∉ f := by
  induction bs with
  | nil => simp [splitFields]
  | cons b bs ih =>
    by_cases hb : b = sep
    · subst b
      rw [splitFields_sep_cons]
      exact List.forall_mem_cons.2 ⟨List.not_mem_nil, ih⟩
    · obtain ⟨f, fs, hsplit⟩ := List.exists_cons_of_ne_nil (splitFields_ne_nil bs)
      rw [hsplit] at ih
      obtain ⟨hf, hfs⟩ := List.forall_mem_cons.1 ih
      rw [splitFields_byte_cons hb hsplit]
      exact List.forall_mem_cons.2 ⟨List.not_mem_cons_of_ne_of_not_mem (Ne.symm hb) hf, hfs⟩

/-- Two pieces or more would put a `SEP` into what they join to. -/
theorem splitFields_of_sep_notMem {bs : Bytes} (h : sep ∉ bs) : splitFields bs = [bs] := by
  have hjoin := joinFields_splitFields bs
  match hsplit : splitFields bs with
  | [] => exact absurd hsplit (splitFields_ne_nil bs)
  | [f] =>
    rw [hsplit] at hjoin
    exact congrArg (fun p => [p]) hjoin
  | f :: g :: fs =>
    rw [hsplit, joinFields] at hjoin
    exact absurd (hjoin ▸ List.mem_append_right f List.mem_cons_self) h

/-- A single piece would be all the bytes, and no piece holds a `SEP`. -/
theorem splitFields_of_sep_mem {bs : Bytes} (h : sep ∈ bs) : ∃ f g fs, splitFields bs = f :: g :: fs := by
  have hjoin := joinFields_splitFields bs
  have hfree := sep_notMem_of_mem_splitFields bs
  match hsplit : splitFields bs with
  | [] => exact absurd hsplit (splitFields_ne_nil bs)
  | [f] =>
    rw [hsplit] at hjoin hfree
    have hf : f = bs := hjoin
    exact absurd (hf ▸ h) (hfree f List.mem_cons_self)
  | f :: g :: fs => exact ⟨f, g, fs, rfl⟩

/-! ### The two parsers -/

theorem parseS_of_nil {payload : Bytes} (h : payload.drop 2 = []) : parseS payload = .noValue := by
  rw [parseS, h]
  rfl

theorem parseS_of_sep_notMem {payload : Bytes} (hne : payload.drop 2 ≠ []) (h : sep ∉ payload.drop 2) :
    parseS payload = .str (payload.drop 2) := by
  rw [parseS, splitFields_of_sep_notMem h]
  exact if_neg hne

theorem parseS_of_sep_mem {payload : Bytes} (h : sep ∈ payload.drop 2) :
    parseS payload = .list (splitFields (payload.drop 2)) ∧ 2 ≤ (splitFields (payload.drop 2)).length := by
  obtain ⟨f, g, fs, hsplit⟩ := splitFields_of_sep_mem h
  rw [parseS, hsplit]
  exact ⟨rfl, Nat.le_add_left 2 fs.length⟩

/-- On a payload that does not begin with `S` the value is a free one (log entry 24). -/
theorem exec_parseS (payload : Bytes) (s : State) :
    exec (.parseS payload) s = .next (s.setReply (.returned
      (if payload.head? = some statusS then parseS payload else Config.freeParsed payload))) := by
  change execParseS payload s = _
  unfold execParseS
  split <;> rfl

/-- On a payload that does not begin with `F` the message is a free one (log entry 24). -/
theorem exec_parseF (payload : Bytes) (s : State) :
    exec (.parseF payload) s = .next (s.setReply (.bytes
      (if payload.head? = some statusF then parseF payload else Config.freeMessage payload))) := by
  change execParseF payload s = _
  unfold execParseF
  split <;> rfl

end Sys2Proof.Machine

namespace Sys2Proof
open Machine

/-- Settles O21: the value names no state; on a payload that begins with `S` it is `parseS`, whose list is
`splitFields` of the bytes after the two skipped ones. -/
theorem parsedResultFollowsSeparators : Obligations.ParsedResultFollowsSeparators := by
  unfold Obligations.ParsedResultFollowsSeparators
  intro payload
  refine ⟨_, _, fun s => ⟨exec_parseS payload s, exec_parseF payload s⟩, fun hS => ?_, fun hF => if_pos hF⟩
  have hhead : payload.head? = some statusS := hS
  rw [if_pos hhead]
  refine ⟨parseS_of_nil, parseS_of_sep_notMem, fun hsep => ?_⟩
  obtain ⟨hlist, hlength⟩ := parseS_of_sep_mem hsep
  exact ⟨_, hlist, hlength, joinFields_splitFields _, sep_notMem_of_mem_splitFields _⟩

end Sys2Proof
end

section
/-!
PROOFS. How many values of a sparse list satisfy a predicate, and what a write does to that number.
-/

namespace Sys2Proof.Machine.Assoc

variable {β : Type} {l : List (Nat × β)} {j k : Nat}

theorem rising_cons {e : Nat × β} : rising (e :: l) = true ↔ (∀ x ∈ l, e.1 < x.1) ∧ rising l = true := by
  simp only [rising, above, Bool.and_eq_true, List.all_eq_true, decide_eq_true_eq]

theorem get?_cons_same (k : Nat) (v : β) (l : List (Nat × β)) : get? k ((k, v) :: l) = some v :=
  if_pos rfl

theorem get?_cons_other (h : j ≠ k) (v : β) (l : List (Nat × β)) : get? j ((k, v) :: l) = get? j l :=
  if_neg h

theorem get?_of_lt (h : ∀ x ∈ l, k < x.1) : get? k l = none := by
  induction l with
  | nil => rfl
  | cons e l ih =>
    obtain ⟨hlt, hl⟩ := List.forall_mem_cons.1 h
    rw [get?, if_neg hlt.ne, ih hl]

theorem mem_of_get? {v : β} (h : get? k l = some v) : (k, v) ∈ l := by
  induction l with
  | nil => cases h
  | cons e l ih =>
    rw [get?] at h
    split at h
    · subst k
      cases h
      exact List.mem_cons_self
    · exact List.mem_cons_of_mem e (ih h)

theorem get?_of_mem {v : β} (hl : rising l = true) (h : (k, v) ∈ l) : get? k l = some v := by
  induction l with
  | nil => cases h
  | cons e l ih =>
    obtain ⟨habove, hrising⟩ := rising_cons.1 hl
    obtain rfl | h := List.mem_cons.1 h
    · exact get?_cons_same k v l
    · rw [get?, if_neg (habove _ h).ne', ih hrising h]

section
variable (p : β → Bool)

theorem countP_cons_value (e : Nat × β) (l : List (Nat × β)) :
    (e :: l).countP (fun x => p x.2) = l.countP (fun x => p x.2) + (p e.2).toNat := by
  rw [List.countP_cons, Bool.toNat, Bool.cond_eq_ite]

/-- Listing a value counts it in and the value it replaces out. -/
theorem countP_insert (k : Nat) (v : β) (hl : rising l = true) :
    (insert k v l).countP (fun x => p x.2) + ((get? k l).any p).toNat = l.countP (fun x => p x.2) + (p v).toNat := by
  induction l with
  | nil =>
    rw [insert, countP_cons_value, get?]
    rfl
  | cons e l ih =>
    obtain ⟨k', w⟩ := e
    obtain ⟨habove, hrising⟩ := rising_cons.1 hl
    rw [insert]
    split_ifs with hlt heq
    · have hnone : get? k ((k', w) :: l) = none :=
        get?_of_lt (List.forall_mem_cons.2 ⟨hlt, fun x hx => hlt.trans (habove x hx)⟩)
      rw [hnone, countP_cons_value]
      rfl
    · subst k
      rw [get?_cons_same, countP_cons_value, countP_cons_value]
      exact Nat.add_right_comm _ _ _
    · rw [get?_cons_other heq, countP_cons_value, countP_cons_value]
      have hrest := ih hrising
      omega

/-- Removing a key counts its value out. -/
theorem countP_erase (k : Nat) (hl : rising l = true) :
    (erase k l).countP (fun x => p x.2) + ((get? k l).any p).toNat = l.countP (fun x => p x.2) := by
  induction l with
  | nil => rfl
  | cons e l ih =>
    obtain ⟨habove, hrising⟩ := rising_cons.1 hl
    have hrest := ih hrising
    obtain ⟨k', w⟩ := e
    rw [erase]
    split_ifs with heq
    · subst k
      rw [get?_of_lt habove] at hrest
      rw [get?_cons_same, countP_cons_value, ← hrest]
      rfl
    · rw [get?_cons_other heq, countP_cons_value, countP_cons_value]
      omega

/-- Where the default does not count, a write counts the new value in and the old one out. -/
theorem countP_put [DecidableEq β] {d : β} (hd : p d = false) (k : Nat) (v : β) (hl : rising l = true) :
    (put d k v l).countP (fun x => p x.2) + (p (getD d k l)).toNat = l.countP (fun x => p x.2) + (p v).toNat := by
  have hold : p (getD d k l) = (get? k l).any p := by
    cases h : get? k l with
    | none => simp [getD, h, hd]
    | some w => simp [getD, h]
  rw [hold, put]
  split_ifs with hv
  · subst v
    rw [countP_erase p k hl, hd]
    rfl
  · exact countP_insert p k v hl

end

end Sys2Proof.Machine.Assoc
end

section
/-!
PROOFS. What a step does to the connections of the sessions (10_state.md R36): `OPEN`, `CLOSE` and `RESET` write them,
every other step leaves them and the registry alone.
-/

namespace Sys2Proof.Machine

/-! ### The connection of a session -/

/-- What `OPEN` fixes of a session (10_state.md R36). -/
structure Connection where
  isOpen : Bool
  kind : Kind
  addr : Byte
  link : LinkId

/-- The session's registers that `OPEN` fixes. -/
def Session.connection (se : Session) : Connection :=
  ⟨se.isOpen, se.kind, se.addr, se.linkId⟩

/-- The session is one of the users `State.openOn` counts on the link. -/
def Session.openOn (l : LinkId) (se : Session) : Bool :=
  se.isOpen && decide (se.linkId = l)

section
variable {se se' : Session} {l : LinkId}

theorem Session.openOn_eq_true : se.openOn l = true ↔ se.isOpen = true ∧ se.linkId = l := by
  rw [Session.openOn, Bool.and_eq_true, decide_eq_true_eq]

theorem Session.openOn_of_closed (h : se.isOpen = false) : se.openOn l = false := by
  rw [Session.openOn, h, Bool.false_and]

theorem Session.openOn_of_other (h : se.linkId ≠ l) : se.openOn l = false := by
  rw [Session.openOn, decide_eq_false h, Bool.and_false]

theorem Session.openOn_congr (h : se'.connection = se.connection) : se'.openOn l = se.openOn l := by
  obtain ⟨hopen, -, -, hlink⟩ := Connection.mk.inj h
  rw [Session.openOn, hopen, hlink, Session.openOn]

end

/-! ### The registers written during a call are not those of the connection -/

section
variable (c : Config) (se : Session)

@[simp] theorem Session.connection_startExchange : se.startExchange.connection = se.connection := by
  unfold Session.startExchange
  split <;> rfl

@[simp] theorem Session.connection_checkHeader : (se.checkHeader c).connection = se.connection := by
  unfold Session.checkHeader
  dsimp only
  split_ifs <;> rfl

@[simp] theorem Session.connection_takeHeader (h : Bytes) : (se.takeHeader c h).connection = se.connection := by
  unfold Session.takeHeader
  split
  · exact Session.connection_checkHeader c _
  · rfl

@[simp] theorem Session.connection_takeBody (b : Bytes) : (se.takeBody b).connection = se.connection := by
  unfold Session.takeBody
  split <;> rfl

theorem Session.connection_retryOrFail {c : Config} {se : Session} {cls : TraceClass} {a : TraceAction}
    {prepare : Session → Session} {tag : ErrTag} {d : Bytes} (hprepare : (prepare se).connection = se.connection) :
    (se.retryOrFail c cls a prepare tag d).connection = se.connection := by
  cases h : budgetLeft c se with
  | true =>
    rw [Session.retryOrFail_budget h]
    exact hprepare
  | false =>
    rw [Session.retryOrFail_exhausted h]
    rfl

@[simp] theorem Session.connection_prepareClass2 : se.prepareClass2.connection = se.connection := by
  rw [Session.prepareClass2_eq]
  rfl

@[simp] theorem Session.connection_prepareHeader : (se.prepareHeader c).connection = se.connection := by
  rw [Session.prepareHeader_eq]
  rfl

@[simp] theorem Session.connection_class1 : (se.class1 c).connection = se.connection :=
  Session.connection_retryOrFail rfl

@[simp] theorem Session.connection_class2 : (se.class2 c).connection = se.connection :=
  Session.connection_retryOrFail (Session.connection_prepareClass2 _)

@[simp] theorem Session.connection_class3 : (se.class3 c).connection = se.connection :=
  Session.connection_retryOrFail rfl

@[simp] theorem Session.connection_classHdrBad : (se.classHdrBad c).connection = se.connection :=
  Session.connection_retryOrFail (Session.connection_prepareHeader c _)

@[simp] theorem Session.connection_classHdrNak : (se.classHdrNak c).connection = se.connection :=
  Session.connection_retryOrFail (Session.connection_prepareHeader c _)

@[simp] theorem Session.connection_classStatus (payload : Bytes) :
    (se.classStatus c payload).connection = se.connection := by
  unfold Session.classStatus
  split
  · exact se.connection_class2 c
  · split_ifs
    · exact se.connection_class3 c
    · rfl
    · rfl
    · rfl

@[simp] theorem Session.connection_classFrame (p : Bytes) : (se.classFrame c p).connection = se.connection := by
  unfold Session.classFrame
  dsimp only
  split
  · exact Session.connection_classStatus c _ _
  · exact Session.connection_class2 c _

@[simp] theorem Session.connection_classify : (se.classify c).connection = se.connection := by
  unfold Session.classify
  split
  · exact se.connection_class1 c
  · exact se.connection_classHdrBad c
  · exact se.connection_classHdrNak c
  · exact se.connection_classFrame c _

end

/-! ### What the engine does between `OPEN` and `CLOSE` -/

/-- `t` comes from `s` by updates that leave the registry and every session's connection: what every step but `OPEN`,
`CLOSE` and `RESET` does to the state it is fetched on. -/
inductive KeepsConnections (s : State) : State → Prop where
  | refl : KeepsConnections s s
  | setSess {t : State} {se : Session} :
      KeepsConnections s t → se.connection = t.sess.connection → KeepsConnections s (t.setSess se)
  | setCrc {t : State} (v : Word16) : KeepsConnections s t → KeepsConnections s (t.setCrc v)
  | setReply {t : State} (r : Reply) : KeepsConnections s t → KeepsConnections s (t.setReply r)
  | bumpFree {t : State} : KeepsConnections s t → KeepsConnections s t.bumpFree
  | takeLock {t : State} (l : LinkId) : KeepsConnections s t → KeepsConnections s (t.takeLock l)
  | freeLock {t : State} (l : LinkId) : KeepsConnections s t → KeepsConnections s (t.freeLock l)
  | setRx {t : State} (l : LinkId) (b : Bytes) : KeepsConnections s t → KeepsConnections s (t.setRx l b)
  | setTx {t : State} (l : LinkId) (b : Bytes) : KeepsConnections s t → KeepsConnections s (t.setTx l b)
  | setWire {t : State} (l : LinkId) (b : Bytes) : KeepsConnections s t → KeepsConnections s (t.setWire l b)
  | logBus {t : State} (l : LinkId) (x : BusTxn) : KeepsConnections s t → KeepsConnections s (t.logBus l x)

namespace KeepsConnections
variable {s t : State}

theorem runVerify (h : KeepsConnections s t) (p : Bytes) : KeepsConnections s (t.runVerify p) := by
  rw [State.runVerify_eq_setCrc]
  exact h.setCrc _

theorem checkAcquired (h : KeepsConnections s t) : KeepsConnections s t.checkAcquired := by
  rw [State.checkAcquired_eq]
  exact h.setCrc _

theorem arrive (h : KeepsConnections s t) (l : LinkId) (v : Bytes) : KeepsConnections s (t.arrive l v) :=
  h.setRx l _

theorem transmit (h : KeepsConnections s t) (l : LinkId) (n : Nat) : KeepsConnections s (t.transmit l n) :=
  (h.setWire l _).setTx l _

/-! ### The stream synchronizer -/

theorem flushRecover (h : KeepsConnections s t) : KeepsConnections s t.flushRecover :=
  ((h.setRx _ _).setTx _ _).setSess rfl

theorem endBody (h : KeepsConnections s t) {se : Session} (hse : se.connection = t.sess.connection) :
    KeepsConnections s (t.endBody se) := by
  unfold State.endBody
  split
  · exact h.setSess hse
  · exact h.flushRecover

theorem takeByte (h : KeepsConnections s t) (b : Byte) : KeepsConnections s (t.takeByte b) := by
  unfold State.takeByte
  dsimp only
  split
  · exact h
  · exact h.setSess rfl
  · exact h.setSess rfl
  · split_ifs
    · exact h.endBody rfl
    · exact h.flushRecover
    · exact h.setSess rfl
  · exact h

theorem onRxByte (h : KeepsConnections s t) : KeepsConnections s t.onRxByte := by
  unfold State.onRxByte
  dsimp only
  split
  · exact h
  · split
    · exact h
    · exact (h.setRx _ _).takeByte _

theorem onRxTimeout (h : KeepsConnections s t) : KeepsConnections s t.onRxTimeout := by
  unfold State.onRxTimeout
  split
  · exact h
  · exact h.flushRecover
  · exact h.flushRecover
  · exact h.endBody rfl
  · exact h

theorem onSettleDone (h : KeepsConnections s t) : KeepsConnections s t.onSettleDone := by
  unfold State.onSettleDone
  dsimp only
  split
  · exact (h.setRx _ _).setSess rfl
  · exact h

theorem onEvent (h : KeepsConnections s t) (e : StreamEvent) : KeepsConnections s (t.onEvent e) := by
  cases e with
  | rxByte => exact h.onRxByte
  | rxTimeout => exact h.onRxTimeout
  | settleDone => exact h.onSettleDone

/-! ### The sends and the bus exchange -/

theorem sendStream (h : KeepsConnections s t) : KeepsConnections s t.sendStream :=
  (h.setTx _ _).setSess rfl

theorem startExchange (h : KeepsConnections s t) : KeepsConnections s (t.setSess t.sess.startExchange) :=
  h.setSess (Session.connection_startExchange _)

theorem writeRequest (h : KeepsConnections s t) : KeepsConnections s t.writeRequest :=
  (h.logBus _ _).setSess rfl

theorem readHeader (h : KeepsConnections s t) (answer : Bytes) : KeepsConnections s (t.readHeader answer) :=
  (h.logBus _ _).setSess (Session.connection_takeHeader _ _ _)

theorem readBody (h : KeepsConnections s t) (answer : Bytes) : KeepsConnections s (t.readBody answer) :=
  (h.logBus _ _).setSess (Session.connection_takeBody _ _)

theorem sendStep (h : KeepsConnections s t) : KeepsConnections s t.sendStep := by
  unfold State.sendStep
  dsimp only
  split
  · exact h.sendStream
  · split
    · exact h.startExchange
    · exact h.writeRequest
    · exact h
    · exact h

/-! ### The call -/

theorem startCall (h : KeepsConnections s t) (fn : Word16) (args : List Value) :
    KeepsConnections s (t.startCall fn args) := by
  unfold State.startCall
  dsimp only
  split
  · exact ((h.setCrc _).takeLock _).setSess rfl
  · exact (h.setReply _).bumpFree.setSess rfl

theorem endCall (h : KeepsConnections s t) {se : Session} (hse : se.connection = t.sess.connection) :
    KeepsConnections s (t.endCall se) :=
  ((h.freeLock _).setReply _).setSess hse

theorem leaveClassifying (h : KeepsConnections s t) {se : Session} (hse : se.connection = t.sess.connection) :
    KeepsConnections s (t.leaveClassifying se) := by
  unfold State.leaveClassifying
  split
  · exact h.endCall hse
  · exact h.setSess hse

theorem classifyStep (h : KeepsConnections s t) : KeepsConnections s t.classifyStep := by
  refine h.checkAcquired.leaveClassifying ?_
  rw [Session.connection_classify, State.checkAcquired_eq, State.sess_setCrc]

theorem internal (h : KeepsConnections s t) : KeepsConnections s t.internal := by
  obtain hstays | ⟨-, ⟨-, fn, args, -, -, hcall⟩ | ⟨-, hsend⟩ | ⟨-, -, hacquired⟩ | ⟨-, hclassify⟩ | ⟨-, hretry⟩ |
    ⟨-, hend⟩⟩ := t.internal_cases
  · rwa [hstays]
  · rw [hcall]
    exact h.startCall fn args
  · rw [hsend]
    exact h.sendStep
  · rw [hacquired]
    exact h.setSess rfl
  · rw [hclassify]
    exact h.classifyStep
  · rw [hretry]
    exact h.setSess rfl
  · rw [hend]
    exact h.endCall rfl

end KeepsConnections

/-! ### Reads are one operation -/

theorem exec_rdCnt (w : Which) (s : State) :
    exec (.rdCnt w) s = readRegister (fun se => .count (se.counter w)) s := rfl

theorem exec_rdTrace (s : State) : exec .rdTrace s = readRegister (fun se => .trace se.trace) s := rfl

theorem exec_rdDiag (s : State) :
    exec .rdDiag s = readRegister (fun se => .diag se.attempts se.nNoframe se.nCorrupt se.nNak se.nHdr) s := rfl

namespace KeepsConnections
variable {s t : State}

/-! ### Instructions and bytes that are no unit -/

theorem of_sendPacket {p : Bytes} (h : sendPacket p s = .next t) : KeepsConnections s t := by
  obtain ⟨-, -, rfl⟩ := sendPacket_next h
  exact refl.sendStream

theorem of_writePacket {p : Bytes} (h : writePacket p s = .next t) : KeepsConnections s t := by
  obtain ⟨-, -, rfl⟩ := writePacket_next h
  exact refl.writeRequest

theorem of_headerArrives {answer : Bytes} (h : headerArrives answer s = .next t) : KeepsConnections s t := by
  obtain ⟨-, rfl⟩ := headerArrives_next h
  exact refl.readHeader answer

theorem of_bodyArrives {answer : Bytes} (h : bodyArrives answer s = .next t) : KeepsConnections s t := by
  obtain ⟨-, rfl⟩ := bodyArrives_next h
  exact refl.readBody answer

theorem of_peerSends {bs : Bytes} (h : peerSends bs s = .next t) : KeepsConnections s t := by
  obtain ⟨-, rfl⟩ := peerSends_next h
  exact refl.arrive _ bs

theorem of_respond {ck : Word16} {p : Bytes} {cls : Session → Session}
    (hcls : ∀ se, (cls se).connection = se.connection) (h : respond ck p cls s = .next t) :
    KeepsConnections s t := by
  obtain ⟨-, -, -, rfl⟩ := respond_next h
  refine (refl.runVerify _).leaveClassifying ?_
  rw [hcls, State.sess_runVerify]
  rfl

theorem of_readRegister {f : Session → Reply} (h : readRegister f s = .next t) : KeepsConnections s t := by
  obtain ⟨-, rfl⟩ := readRegister_next h
  exact refl.setReply _

theorem of_execRqResend (h : execRqResend s = .next t) : KeepsConnections s t := by
  unfold execRqResend at h
  split at h
  · exact of_sendPacket h
  · cases h

theorem of_execEncodeRequest {address : Option Byte} {fn : Word16} {args : List Value}
    (h : execEncodeRequest address fn args s = .next t) : KeepsConnections s t := by
  unfold execEncodeRequest at h
  split at h
  · cases h
    exact (refl.setCrc _).setReply _
  · cases h
    exact refl.setReply _

theorem of_execDecodeRequest {packet : Bytes} {kind : Kind} (h : execDecodeRequest packet kind s = .next t) :
    KeepsConnections s t := by
  unfold execDecodeRequest at h
  split at h
  · cases h
    exact (refl.runVerify _).setReply _
  · cases h
    exact (refl.runVerify _).setReply _

theorem of_execBusExchange {r : Bytes} (h : execBusExchange r s = .next t) : KeepsConnections s t := by
  obtain ⟨-, ⟨-, -, rfl⟩ | ⟨-, -, rfl⟩ | ⟨-, -, rfl⟩ | ⟨-, -, rfl⟩⟩ := execBusExchange_next h
  · exact refl.startExchange
  · exact refl.writeRequest
  · exact refl.readHeader r
  · exact refl.readBody r

theorem of_execCall {fn : Word16} {args : List Value} (h : execCall fn args s = .next t) : KeepsConnections s t := by
  obtain ⟨-, ⟨-, rfl⟩ | ⟨-, rfl⟩⟩ := execCall_next h
  · exact refl.startCall fn args
  · exact refl.setSess rfl

theorem of_execIllegal {ch : Channel} {bs : Bytes} (h : execIllegal ch bs s = .next t) : KeepsConnections s t := by
  obtain rfl | ⟨-, rfl⟩ | ⟨-, rfl⟩ | ⟨-, rfl⟩ | ⟨-, rfl⟩ | ⟨-, rfl⟩ | ⟨-, rfl⟩ := execIllegal_next h
  · exact (refl.runVerify bs).setReply _
  · exact refl.sendStream
  · exact refl.writeRequest
  · exact refl.arrive _ bs
  · exact refl.readHeader bs
  · exact refl.readBody bs
  · exact refl.classifyStep

/-- Every instruction but the three that open, close or reset. -/
theorem of_exec {i : Instr} (h : exec i s = .next t) :
    KeepsConnections s t ∨ (∃ kind addr link, i = .openSession kind addr link) ∨ i = .closeSession ∨ i = .reset := by
  cases i with
  | openSession kind addr link => exact .inr (.inl ⟨kind, addr, link, rfl⟩)
  | closeSession => exact .inr (.inr (.inl rfl))
  | reset => exact .inr (.inr (.inr rfl))
  | pkt | verify | decodeResponse =>
    cases h
    exact .inl ((refl.runVerify _).setReply _)
  | crc16Init | crc16Step | crc16 | mkpacket =>
    cases h
    exact .inl ((refl.setCrc _).setReply _)
  | fmtArg | fmtHex | fmtHex2 | frameS | renderForLog =>
    cases h
    exact .inl (refl.setReply _)
  | encodeRequest => exact .inl (of_execEncodeRequest h)
  | decodeRequest => exact .inl (of_execDecodeRequest h)
  | wireS d =>
    cases d with
    | toPeer => exact .inl (of_sendPacket h)
    | toEngine => exact .inl (of_peerSends h)
  | reqS => exact .inl (of_sendPacket h)
  | rqResend => exact .inl (of_execRqResend h)
  | wireBReq | reqB => exact .inl (of_writePacket h)
  | busHdr | busHdrNak => exact .inl (of_headerArrives h)
  | wireBBody => exact .inl (of_bodyArrives h)
  | respS ck rest => exact .inl (of_respond (cls := Session.class4 (statusS :: rest)) (fun _ => rfl) h)
  | respF ck rest => exact .inl (of_respond (cls := Session.class5 (statusF :: rest)) (fun _ => rfl) h)
  | respE => exact .inl (of_respond (Session.connection_class3 s.cfg) h)
  | respReserved => exact .inl (of_respond (cls := Session.class6) (fun _ => rfl) h)
  | acquireStream e =>
    obtain ⟨-, rfl⟩ | ⟨-, rfl⟩ := execAcquireStream_next h
    · exact .inl (refl.onEvent e)
    · exact .inl refl
  | flushRecover =>
    obtain ⟨-, -, rfl⟩ := execFlushRecover_next h
    exact .inl refl.flushRecover
  | busExchange => exact .inl (of_execBusExchange h)
  | hdrCheck =>
    obtain ⟨-, rfl⟩ := execHdrCheck_next h
    exact .inl ((refl.setSess (Session.connection_checkHeader _ _)).setReply _)
  | classify =>
    obtain ⟨-, rfl⟩ := execClassify_next h
    exact .inl (refl.classifyStep.setReply _)
  | parseS =>
    obtain ⟨-, rfl⟩ | ⟨-, rfl⟩ := execParseS_next h
    · exact .inl (refl.setReply _)
    · exact .inl (refl.setReply _)
  | parseF =>
    obtain ⟨-, rfl⟩ | ⟨-, rfl⟩ := execParseF_next h
    · exact .inl (refl.setReply _)
    · exact .inl (refl.setReply _)
  | call => exact .inl (of_execCall h)
  | rdCnt w =>
    rw [exec_rdCnt] at h
    exact .inl (of_readRegister h)
  | rdTrace =>
    rw [exec_rdTrace] at h
    exact .inl (of_readRegister h)
  | rdDiag =>
    rw [exec_rdDiag] at h
    exact .inl (of_readRegister h)

end KeepsConnections

/-! ### The step -/

/-- A step turns to a session and then opens, closes, resets or keeps every connection. -/
theorem step_connections {s t : State} (h : step s = .next t) :
    ∃ sid rest, KeepsConnections (s.select sid rest) t ∨
      (∃ kind addr link, execOpenSession kind addr link (s.select sid rest) = .next t) ∨
      execCloseSession (s.select sid rest) = .next t ∨ execReset (s.select sid rest) = .next t := by
  obtain ⟨i, u, hf, hexec⟩ | ⟨ch, bs, u, hf, hexec⟩ | hf | ⟨u, hf, rfl⟩ := step_next h
  · obtain ⟨sid, rest, rfl⟩ := fetch_run hf
    refine ⟨sid, rest, ?_⟩
    obtain hkeeps | ⟨kind, addr, link, rfl⟩ | rfl | rfl := KeepsConnections.of_exec hexec
    · exact .inl hkeeps
    · exact .inr (.inl ⟨kind, addr, link, hexec⟩)
    · exact .inr (.inr (.inl hexec))
    · exact .inr (.inr (.inr hexec))
  · obtain ⟨sid, rest, rfl⟩ := fetch_illegal hf
    exact ⟨sid, rest, .inl (KeepsConnections.of_execIllegal hexec)⟩
  · obtain ⟨l, bs, rest, rfl⟩ | ⟨l, n, rest, rfl⟩ := fetch_environment hf
    · exact ⟨s.cur, rest, .inl (KeepsConnections.refl.arrive l bs)⟩
    · exact ⟨s.cur, rest, .inl (KeepsConnections.refl.transmit l n)⟩
  · obtain rfl | ⟨sid, rest, rfl⟩ := fetch_engine hf
    · exact ⟨u.cur, u.agenda, .inl KeepsConnections.refl.internal⟩
    · exact ⟨sid, rest, .inl KeepsConnections.refl.internal⟩

end Sys2Proof.Machine
end

section
/-!
PROOFS. The registry counts its users (45_host_ops.md R301, R305): the count of one link, what `OPEN` and `CLOSE` do to
it, and that every step keeps it.
-/

namespace Sys2Proof.Machine

variable {s t : State} {se : Session} {l j : LinkId}

/-! ### The number of open sessions on a link -/

theorem Memory.rising_sessions (hwf : Memory.wf s = true) : Assoc.rising s.sessions = true := by
  obtain ⟨hcanonical, -⟩ := (Memory.wf_iff s).1 hwf
  exact (Bool.and_eq_true_iff.1 hcanonical).1

/-- A write of the current session's registers counts the old ones out and the new ones in. -/
theorem State.openOn_setSess (hwf : Memory.wf s = true) (se : Session) (l : LinkId) :
    (s.setSess se).openOn l + (s.sess.openOn l).toNat = s.openOn l + (se.openOn l).toNat :=
  Assoc.countP_put (Session.openOn l) rfl s.cur se (Memory.rising_sessions hwf)

theorem State.openOn_setSess_same (hwf : Memory.wf s = true) (h : se.openOn l = s.sess.openOn l) :
    (s.setSess se).openOn l = s.openOn l := by
  have hcount := State.openOn_setSess hwf se l
  rw [h] at hcount
  exact Nat.add_right_cancel hcount

theorem State.openOn_pos {sid : SessId} (h : (s.session sid).openOn l = true) : 0 < s.openOn l := by
  obtain hnone | ⟨se, hsome⟩ := Option.eq_none_or_eq_some (Assoc.get? sid s.sessions)
  · rw [State.session, Assoc.getD, hnone] at h
    cases h
  · rw [State.session, Assoc.getD, hsome] at h
    exact List.countP_pos_iff.2 ⟨_, Assoc.mem_of_get? hsome, h⟩

theorem State.openOn_eq_zero (hwf : Memory.wf s = true) (h : ∀ sid, (s.session sid).openOn l = false) :
    s.openOn l = 0 := by
  refine List.countP_eq_zero.2 fun ⟨sid, se⟩ hmem hopen => ?_
  have hse : s.session sid = se := by
    rw [State.session, Assoc.getD, Assoc.get?_of_mem (Memory.rising_sessions hwf) hmem, Option.getD_some]
  have hclosed := h sid
  rw [hse] at hclosed
  exact Bool.false_ne_true (hclosed.symm.trans hopen)

/-! ### The registry's count, link by link -/

/-- What `RegistryInv` says of one link. -/
structure LinkCounted (s : State) (l : LinkId) : Prop where
  users : ∀ e, s.regEntry l = some e → e.users = s.openOn l ∧ 0 < e.users
  registered : ∀ sid, (s.session sid).openOn l = true →
    ∃ e, s.regEntry l = some e ∧ e.kind = (s.session sid).kind

theorem registryInv_iff : RegistryInv s ↔ Memory.wf s = true ∧ ∀ l, LinkCounted s l := by
  constructor
  · intro h
    refine ⟨h.wf, fun l => ⟨h.users l, fun sid hopen => ?_⟩⟩
    obtain ⟨hisOpen, rfl⟩ := Session.openOn_eq_true.1 hopen
    exact h.registered sid hisOpen
  · rintro ⟨hwf, hlinks⟩
    exact ⟨hwf, fun l => (hlinks l).users,
      fun sid hisOpen => (hlinks _).registered sid (Session.openOn_eq_true.2 ⟨hisOpen, rfl⟩)⟩

namespace LinkCounted

theorem congr (h : LinkCounted s l) (hsessions : t.sessions = s.sessions) (hreg : t.regEntry l = s.regEntry l) :
    LinkCounted t l := by
  have hcount : t.openOn l = s.openOn l := by rw [State.openOn, hsessions, State.openOn]
  have hsession : ∀ sid, t.session sid = s.session sid := fun sid => by rw [State.session, hsessions, State.session]
  constructor
  · rw [hreg, hcount]
    exact h.users
  · intro sid
    rw [hreg, hsession]
    exact h.registered sid

theorem setSess (h : LinkCounted s l) (hwf : Memory.wf s = true) (hopen : se.openOn l = s.sess.openOn l)
    (hkind : se.openOn l = true → se.kind = s.sess.kind) : LinkCounted (s.setSess se) l := by
  constructor
  · rw [State.regEntry_setSess, State.openOn_setSess_same hwf hopen]
    exact h.users
  · intro sid
    rw [State.session_setSess, State.regEntry_setSess]
    split
    · intro hse
      rw [hkind hse]
      exact h.registered s.cur (hopen ▸ hse)
    · exact h.registered sid

/-- `OPEN` adds the user it counts. -/
theorem opened (h : LinkCounted s l) (hwf : Memory.wf s = true) (hclosed : s.sess.isOpen = false)
    (hkind : ∀ e, s.regEntry l = some e → e.kind = se.kind) (hse : se.openOn l = true) :
    LinkCounted ((s.setReg l ⟨se.kind, s.openOn l + 1⟩).setSess se) l := by
  have hcount := State.openOn_setSess (Memory.wf_setReg l ⟨se.kind, s.openOn l + 1⟩ hwf) se l
  rw [State.sess_setReg, Session.openOn_of_closed hclosed, hse] at hcount
  constructor
  · intro e he
    obtain rfl : (⟨se.kind, s.openOn l + 1⟩ : RegEntry) = e := by simpa using he
    exact ⟨hcount.symm, Nat.succ_pos _⟩
  · intro sid hopen
    refine ⟨_, State.regEntry_setReg_same s l _, ?_⟩
    rw [State.session_setSess] at hopen ⊢
    split at hopen
    · rw [if_pos ‹_›]
    · rw [if_neg ‹_›]
      obtain ⟨e, he, hekind⟩ := h.registered sid hopen
      exact (hkind e he).symm.trans hekind

end LinkCounted

/-! ### One user of a link less -/

theorem State.leaveLink_last {e : RegEntry} (he : s.regEntry l = some e) (h : e.users = 1) :
    s.leaveLink l = s.dropReg l := by
  simp [State.leaveLink, he, h]

theorem State.leaveLink_shared {e : RegEntry} (he : s.regEntry l = some e) (h : 1 < e.users) :
    s.leaveLink l = s.setReg l ⟨e.kind, e.users - 1⟩ := by
  have hleft : e.users - 1 ≠ 0 := Nat.sub_ne_zero_of_lt h
  simp [State.leaveLink, he, hleft]

@[simp] theorem State.leaveLink_sessions (s : State) (l : LinkId) : (s.leaveLink l).sessions = s.sessions := by
  unfold State.leaveLink
  split
  · rfl
  · split <;> rfl

@[simp] theorem State.leaveLink_cur (s : State) (l : LinkId) : (s.leaveLink l).cur = s.cur := by
  unfold State.leaveLink
  split
  · rfl
  · split <;> rfl

@[simp] theorem State.session_leaveLink (s : State) (l : LinkId) (sid : SessId) :
    (s.leaveLink l).session sid = s.session sid := by
  rw [State.session, State.leaveLink_sessions, State.session]

@[simp] theorem State.sess_leaveLink (s : State) (l : LinkId) : (s.leaveLink l).sess = s.sess := by
  rw [State.sess, State.session_leaveLink, State.leaveLink_cur, State.sess]

theorem State.regEntry_leaveLink_other (s : State) (h : j ≠ l) : (s.leaveLink l).regEntry j = s.regEntry j := by
  unfold State.leaveLink
  split
  · rfl
  · split
    · exact s.regEntry_dropReg_other h
    · exact s.regEntry_setReg_other _ h

/-- `CLOSE` takes off the user it no longer counts; where that was the last one, no session of the link is left. -/
theorem LinkCounted.closed (h : LinkCounted s l) (hwf : Memory.wf s = true) (hopen : s.sess.openOn l = true)
    (hse : se.openOn l = false) : LinkCounted ((s.leaveLink l).setSess se) l := by
  obtain ⟨e, he, -⟩ := h.registered s.cur hopen
  obtain ⟨husers, hpos⟩ := h.users e he
  have hcount := State.openOn_setSess (Memory.wf_leaveLink l hwf) se l
  have hsame : (s.leaveLink l).openOn l = s.openOn l := by rw [State.openOn, State.leaveLink_sessions, State.openOn]
  rw [State.sess_leaveLink, hopen, hse, hsame, ← husers] at hcount
  obtain hlast | hshared := Nat.eq_or_lt_of_le hpos
  · rw [State.leaveLink_last he hlast.symm] at hcount ⊢
    have hzero : ((s.dropReg l).setSess se).openOn l = 0 := by
      rw [← hlast] at hcount
      exact Nat.succ.inj hcount
    constructor
    · intro e' he'
      rw [State.regEntry_setSess, State.regEntry_dropReg_same] at he'
      cases he'
    · intro sid hsid
      exact absurd hzero (State.openOn_pos hsid).ne'
  · rw [State.leaveLink_shared he hshared] at hcount ⊢
    constructor
    · intro e' he'
      obtain rfl : (⟨e.kind, e.users - 1⟩ : RegEntry) = e' := by simpa using he'
      exact ⟨Nat.sub_eq_of_eq_add hcount.symm, Nat.sub_pos_of_lt hshared⟩
    · intro sid hsid
      refine ⟨_, State.regEntry_setReg_same s l _, ?_⟩
      rw [State.session_setSess] at hsid ⊢
      split at hsid
      · rw [hse] at hsid
        cases hsid
      · rw [if_neg ‹_›]
        obtain ⟨e', he', hkind⟩ := h.registered sid hsid
        obtain rfl : e' = e := Option.some.inj (he'.symm.trans he)
        exact hkind

/-- The current session is not on the link, before and after. -/
theorem LinkCounted.setSess_elsewhere (h : LinkCounted s l) (hwf : Memory.wf s = true)
    (hold : s.sess.openOn l = false) (hnew : se.openOn l = false) : LinkCounted (s.setSess se) l :=
  h.setSess hwf (hnew.trans hold.symm) fun hse => absurd (hnew.symm.trans hse) Bool.false_ne_true

/-! ### What the steps do to the invariant -/

namespace RegistryInv

theorem congr (h : RegistryInv s) (hwf : Memory.wf t = true) (hsessions : t.sessions = s.sessions)
    (hreg : t.registry = s.registry) : RegistryInv t := by
  obtain ⟨-, hlinks⟩ := registryInv_iff.1 h
  exact registryInv_iff.2 ⟨hwf, fun l => (hlinks l).congr hsessions (congrArg (Assoc.get? l) hreg)⟩

theorem setSess (h : RegistryInv s) (hse : se.connection = s.sess.connection) : RegistryInv (s.setSess se) := by
  obtain ⟨hwf, hlinks⟩ := registryInv_iff.1 h
  obtain ⟨-, hkind, -, -⟩ := Connection.mk.inj hse
  exact registryInv_iff.2 ⟨Memory.wf_setSess se hwf,
    fun l => (hlinks l).setSess hwf (Session.openOn_congr hse) fun _ => hkind⟩

theorem of_keepsConnections (h : RegistryInv s) (hkeeps : KeepsConnections s t) : RegistryInv t := by
  induction hkeeps with
  | refl => exact h
  | setSess _ hse ih => exact ih.setSess hse
  | setCrc v _ ih => exact ih.congr (Memory.wf_setCrc v ih.wf) rfl rfl
  | setReply r _ ih => exact ih.congr (Memory.wf_setReply r ih.wf) rfl rfl
  | bumpFree _ ih => exact ih.congr (Memory.wf_bumpFree ih.wf) rfl rfl
  | takeLock l _ ih => exact ih.congr (Memory.wf_takeLock l ih.wf) rfl rfl
  | freeLock l _ ih => exact ih.congr (Memory.wf_freeLock l ih.wf) rfl rfl
  | setRx l b _ ih => exact ih.congr (Memory.wf_setRx l b ih.wf) rfl rfl
  | setTx l b _ ih => exact ih.congr (Memory.wf_setTx l b ih.wf) rfl rfl
  | setWire l b _ ih => exact ih.congr (Memory.wf_setWire l b ih.wf) rfl rfl
  | logBus l x _ ih => exact ih.congr (Memory.wf_logBus l x ih.wf) rfl rfl

theorem opened (h : RegistryInv s) (hclosed : s.sess.isOpen = false)
    (hkind : ∀ e, s.regEntry se.linkId = some e → e.kind = se.kind) (hse : se.isOpen = true) :
    RegistryInv ((s.setReg se.linkId ⟨se.kind, s.openOn se.linkId + 1⟩).setSess se) := by
  obtain ⟨hwf, hlinks⟩ := registryInv_iff.1 h
  have hwf' := Memory.wf_setReg se.linkId ⟨se.kind, s.openOn se.linkId + 1⟩ hwf
  refine registryInv_iff.2 ⟨Memory.wf_setSess se hwf', fun j => ?_⟩
  obtain rfl | hj := eq_or_ne j se.linkId
  · exact (hlinks se.linkId).opened hwf hclosed hkind (Session.openOn_eq_true.2 ⟨hse, rfl⟩)
  · have helsewhere : LinkCounted (s.setReg se.linkId ⟨se.kind, s.openOn se.linkId + 1⟩) j :=
      (hlinks j).congr rfl (s.regEntry_setReg_other _ hj)
    exact helsewhere.setSess_elsewhere hwf' (Session.openOn_of_closed hclosed) (Session.openOn_of_other hj.symm)

theorem closed (h : RegistryInv s) (hopen : s.sess.isOpen = true) (hse : se.isOpen = false) :
    RegistryInv ((s.leaveLink s.sess.linkId).setSess se) := by
  obtain ⟨hwf, hlinks⟩ := registryInv_iff.1 h
  have hwf' := Memory.wf_leaveLink s.sess.linkId hwf
  refine registryInv_iff.2 ⟨Memory.wf_setSess se hwf', fun j => ?_⟩
  obtain rfl | hj := eq_or_ne j s.sess.linkId
  · exact (hlinks s.sess.linkId).closed hwf (Session.openOn_eq_true.2 ⟨hopen, rfl⟩) (Session.openOn_of_closed hse)
  · have helsewhere : LinkCounted (s.leaveLink s.sess.linkId) j :=
      (hlinks j).congr (s.leaveLink_sessions _) (s.regEntry_leaveLink_other hj)
    have hold : (s.leaveLink s.sess.linkId).sess.openOn j = false := by
      rw [State.sess_leaveLink]
      exact Session.openOn_of_other hj.symm
    exact helsewhere.setSess_elsewhere hwf' hold (Session.openOn_of_closed hse)

theorem openOn_eq_zero (h : RegistryInv s) (hnone : s.regEntry l = none) : s.openOn l = 0 := by
  obtain ⟨hwf, hlinks⟩ := registryInv_iff.1 h
  refine State.openOn_eq_zero hwf fun sid => ?_
  by_contra hopen
  obtain ⟨e, he, -⟩ := (hlinks l).registered sid (Bool.eq_true_of_not_eq_false hopen)
  rw [hnone] at he
  cases he

theorem of_execOpenSession (h : RegistryInv s) {kind : Kind} {addr : Byte} {link : LinkId}
    (hexec : execOpenSession kind addr link s = .next t) : RegistryInv t := by
  obtain ⟨hclosed, ⟨why, rfl⟩ | ⟨-, hnone, rfl⟩ | ⟨-, e, he, rfl, rfl⟩⟩ := execOpenSession_next hexec
  · exact h.congr h.wf rfl rfl
  · have hopened := h.opened (se := Session.opened kind addr link) hclosed
      (fun e he => by cases hnone.symm.trans he) rfl
    rw [Session.opened_linkId, h.openOn_eq_zero hnone] at hopened
    exact hopened.congr (Memory.wf_freeLock link hopened.wf) rfl rfl
  · have hopened := h.opened (se := Session.opened e.kind addr link) hclosed
      (fun e' he' => by cases he.symm.trans he'; rfl) rfl
    rw [Session.opened_linkId, ← (h.users link e he).1] at hopened
    exact hopened.congr hopened.wf rfl rfl

theorem of_execCloseSession (h : RegistryInv s) (hexec : execCloseSession s = .next t) : RegistryInv t := by
  obtain ⟨hrefusal, rfl⟩ := execCloseSession_next hexec
  obtain ⟨hopen, -, -⟩ := Session.refusal_none.1 hrefusal
  have hclosed := h.closed (se := s.sess.closed) hopen rfl
  exact hclosed.congr hclosed.wf rfl rfl

/-- After `RESET` no link is entered and no session open. -/
theorem of_execReset (h : RegistryInv s) (hexec : execReset s = .next t) : RegistryInv t := by
  cases hexec
  obtain ⟨-, -, -, -, -, hsent⟩ := (Memory.wf_iff s).1 h.wf
  refine ⟨(Memory.wf_iff _).2 ⟨rfl, rfl, rfl, Assoc.canonical_ofList _ _, Assoc.canonical_ofList _ _, hsent⟩, ?_, ?_⟩
  · intro l e he
    cases he
  · intro sid hopen
    cases hopen

end RegistryInv

end Sys2Proof.Machine

namespace Sys2Proof
open Machine

/-- Settles O53: a step keeps every connection, opens, closes or resets; a link the current session is not on keeps its
count, and on its own link `OPEN` and `CLOSE` move the count and the entry's users together. -/
theorem stepKeepsRegistryCount : Obligations.StepKeepsRegistryCount := by
  unfold Obligations.StepKeepsRegistryCount
  intro s t h hstep
  obtain ⟨sid, rest, hcases⟩ := step_connections hstep
  have hselected : RegistryInv (s.select sid rest) := h.congr h.wf rfl rfl
  obtain hkeeps | ⟨kind, addr, link, hopen⟩ | hclose | hreset := hcases
  · exact hselected.of_keepsConnections hkeeps
  · exact hselected.of_execOpenSession hopen
  · exact hselected.of_execCloseSession hclose
  · exact hselected.of_execReset hreset

end Sys2Proof
end

section
/-!
PROOFS. The host operations (45_host_ops.md R301, R303 to R306): when they are refused, and what they do on a closed
session, on an open idle one and on one that waits for its link's lock.
-/

namespace Sys2Proof.Machine

/-! ### Refusals -/

section
variable {se : Session}

theorem Session.refusal_closed (h : se.isOpen = false) : se.refusal = some .sessionClosed :=
  if_pos h

theorem Session.refusal_busy (hopen : se.isOpen = true) (hbusy : se.st ≠ .idle ∨ se.waiting ≠ none) :
    se.refusal = some .sessionBusy := by
  rw [Session.refusal, if_neg (ne_false_of_eq_true hopen), if_neg (not_and_or.2 hbusy)]

end

section
variable {s : State} {r : Refusal} (h : s.sess.refusal = some r)
include h

theorem exec_call_refused (fn : Word16) (args : List Value) : exec (.call fn args) s = .refused r := by
  change execCall fn args s = _
  simp [execCall, h]

theorem exec_closeSession_refused : exec .closeSession s = .refused r := by
  change execCloseSession s = _
  simp [execCloseSession, h]

theorem readRegister_refused (f : Session → Reply) : readRegister f s = .refused r := by
  simp [readRegister, h]

theorem exec_read_refused {i : Instr} (hi : (∃ w, i = .rdCnt w) ∨ i = .rdTrace ∨ i = .rdDiag) :
    exec i s = .refused r := by
  obtain ⟨w, rfl⟩ | rfl | rfl := hi
  · rw [exec_rdCnt, readRegister_refused h]
  · rw [exec_rdTrace, readRegister_refused h]
  · rw [exec_rdDiag, readRegister_refused h]

end

/-! ### On an open, idle session -/

section
variable {s : State} (h : s.sess.refusal = none)
include h

theorem readRegister_idle (f : Session → Reply) : readRegister f s = .next (s.setReply (f s.sess)) := by
  simp [readRegister, h]

theorem exec_closeSession_idle :
    exec .closeSession s = .next (((s.leaveLink s.sess.linkId).setSess s.sess.closed).setReply .done) := by
  change execCloseSession s = _
  simp [execCloseSession, h]

theorem exec_call_waits (hlock : s.lockOf s.sess.linkId ≠ none) (fn : Word16) (args : List Value) :
    exec (.call fn args) s = .next (s.waitCall fn args) := by
  change execCall fn args s = _
  simp [execCall, h, hlock]

end

/-! ### A call that waits for the lock -/

section
variable {s : State} {fn : Word16} {args : List Value} (hopen : s.sess.isOpen = true) (hst : s.sess.st = .idle)
  (hwaiting : s.sess.waiting = some (fn, args))
include hopen hst hwaiting

theorem State.internal_waiting_locked (hlock : s.lockOf s.sess.linkId ≠ none) : s.internal = s := by
  simp [State.internal, hopen, hst, hwaiting, hlock]

theorem State.internal_waiting_free (hlock : s.lockOf s.sess.linkId = none) : s.internal = s.startCall fn args := by
  simp [State.internal, hopen, hst, hwaiting, hlock]

end

/-! ### `OPEN` -/

section
variable {s : State} {kind : Kind} {addr : Byte} {link : LinkId}

theorem exec_openSession_open (hopen : s.sess.isOpen = true) :
    exec (.openSession kind addr link) s = .refused .sessionAlreadyOpen :=
  if_pos hopen

theorem exec_openSession_badAddress (hclosed : s.sess.isOpen = false) (haddr : addrMax < addr.toNat) :
    exec (.openSession kind addr link) s = .next (s.setReply (.openError .badAddress addr)) := by
  change execOpenSession kind addr link s = _
  simp [execOpenSession, hclosed, haddr]

variable (hclosed : s.sess.isOpen = false) (haddr : addr.toNat ≤ addrMax)
include hclosed haddr

theorem exec_openSession_enters (hreg : s.regEntry link = none) :
    exec (.openSession kind addr link) s = .next ((((s.setReg link ⟨kind, 1⟩).freeLock link).setSess
      (Session.opened kind addr link)).setReply .done) := by
  change execOpenSession kind addr link s = _
  simp [execOpenSession, hclosed, haddr.not_gt, hreg]

theorem exec_openSession_shares {users : Nat} (hreg : s.regEntry link = some ⟨kind, users⟩) :
    exec (.openSession kind addr link) s = .next (((s.setReg link ⟨kind, users + 1⟩).setSess
      (Session.opened kind addr link)).setReply .done) := by
  change execOpenSession kind addr link s = _
  simp [execOpenSession, hclosed, haddr.not_gt, hreg]

theorem exec_openSession_kindMismatch {e : RegEntry} (hreg : s.regEntry link = some e) (hkind : e.kind ≠ kind) :
    exec (.openSession kind addr link) s = .next (s.setReply (.openError .kindMismatch addr)) := by
  change execOpenSession kind addr link s = _
  simp [execOpenSession, hclosed, haddr.not_gt, hreg, hkind]

end

end Sys2Proof.Machine

namespace Sys2Proof
open Machine

/-- Settles O46: a call is refused by the session's state before the lock is asked; a waiting call starts as a fresh one
does, by the two equations of `startCall`. -/
theorem callIsRefusedOrWaits : Obligations.CallIsRefusedOrWaits := by
  unfold Obligations.CallIsRefusedOrWaits
  intro s fn args
  refine ⟨fun hclosed => ?_, fun hopen hbusy => ?_, fun hopen hst hwaiting hlock => ?_, fun hopen hst hwaiting =>
    ⟨State.internal_waiting_locked hopen hst hwaiting, fun hlock hascii => ?_, fun hlock hnonAscii => ?_⟩⟩
  · exact exec_call_refused (Session.refusal_closed hclosed) fn args
  · exact exec_call_refused (Session.refusal_busy hopen hbusy) fn args
  · exact exec_call_waits (Session.refusal_none.2 ⟨hopen, hst, hwaiting⟩) hlock fn args
  · rw [State.internal_waiting_free hopen hst hwaiting hlock, ← Session.encodeAddress_eq]
    exact ⟨_, rfl, State.startCall_of_ascii s fn hascii rfl⟩
  · rw [State.internal_waiting_free hopen hst hwaiting hlock]
    exact ⟨_, State.startCall_of_nonAscii s fn hnonAscii⟩

/-- Settles O47: the branches of `OPEN`, by the session, the address and the link's entry. -/
theorem openEntersTheLinkOrFails : Obligations.OpenEntersTheLinkOrFails := by
  unfold Obligations.OpenEntersTheLinkOrFails
  intro s kind addr link
  refine ⟨fun hclosed haddr => ⟨_, rfl, exec_openSession_enters hclosed haddr, fun users => ?_⟩,
    exec_openSession_open, exec_openSession_badAddress, fun hclosed haddr e => ?_⟩
  · exact exec_openSession_shares hclosed haddr
  · exact exec_openSession_kindMismatch hclosed haddr

/-- Settles O48: `CLOSE` leaves the link, which drops the entry with its last user. -/
theorem closeLeavesTheLink : Obligations.CloseLeavesTheLink := by
  unfold Obligations.CloseLeavesTheLink
  intro s
  refine ⟨fun hopen hst hwaiting e he => ?_, fun hclosed => ?_, fun hopen hbusy => ?_⟩
  · rw [exec_closeSession_idle (Session.refusal_none.2 ⟨hopen, hst, hwaiting⟩)]
    refine ⟨fun hlast => ?_, fun hshared => ?_⟩
    · rw [State.leaveLink_last he hlast, Session.closed]
    · rw [State.leaveLink_shared he hshared, Session.closed]
  · exact exec_closeSession_refused (Session.refusal_closed hclosed)
  · exact exec_closeSession_refused (Session.refusal_busy hopen hbusy)

/-- Settles O49: the four reads are one operation that gives a function of the session's registers. -/
theorem readsReturnRegistersAndWriteNone : Obligations.ReadsReturnRegistersAndWriteNone := by
  unfold Obligations.ReadsReturnRegistersAndWriteNone
  intro s
  refine ⟨fun hopen hst hwaiting => ?_, fun i hi => ⟨fun hclosed => ?_, fun hopen hbusy => ?_⟩⟩
  · have hidle : s.sess.refusal = none := Session.refusal_none.2 ⟨hopen, hst, hwaiting⟩
    rw [exec_rdCnt, exec_rdCnt, exec_rdTrace, exec_rdDiag]
    simp only [readRegister_idle hidle, Session.counter, and_self]
  · exact exec_read_refused (Session.refusal_closed hclosed) hi
  · exact exec_read_refused (Session.refusal_busy hopen hbusy) hi

end Sys2Proof
end

section
/-!
PROOFS. The decoder and the encoder are inverse to each other on every channel (30_encoding.md sections 1 and 4), and so
are the two request operations (41_packet_codec.md R167): splitting undoes joining of `SEP`-free fields, and a number
has one form.
-/

namespace Sys2Proof.Machine

/-! ### Splitting undoes joining -/

theorem splitFields_append_sep {f : Bytes} (hf : sep ∉ f) (bs : Bytes) :
    splitFields (f ++ sep :: bs) = f :: splitFields bs := by
  induction f with
  | nil => exact splitFields_sep_cons bs
  | cons b f ih =>
    obtain ⟨hb, hf⟩ := not_or.1 (mt List.mem_cons.2 hf)
    exact splitFields_byte_cons (Ne.symm hb) (ih hf)

theorem splitFields_joinFields {fs : List Bytes} (hne : fs ≠ []) (hfree : ∀ f ∈ fs, sep ∉ f) :
    splitFields (joinFields fs) = fs := by
  induction fs with
  | nil => exact absurd rfl hne
  | cons f fs ih =>
    obtain ⟨hf, hfs⟩ := List.forall_mem_cons.1 hfree
    cases fs with
    | nil => exact splitFields_of_sep_notMem hf
    | cons g gs => rw [joinFields, splitFields_append_sep hf, ih (List.cons_ne_nil g gs) hfs]

theorem argField_eq_true {f : Bytes} : argField f = true ↔ sep ∉ f := by
  simp only [argField, List.all_eq_true, decide_eq_true_eq]
  exact ⟨fun h hmem => h sep hmem rfl, fun h b hb hsep => h (hsep ▸ hb)⟩

theorem all_argField_eq_true {fs : List Bytes} : fs.all argField = true ↔ ∀ f ∈ fs, sep ∉ f := by
  simp only [List.all_eq_true, argField_eq_true]

/-! ### A number has one form -/

/-- The number a string of digits stands for, on top of `acc`. -/
def hexValueOf (acc : Nat) (ds : List (BitVec 4)) : Nat :=
  ds.foldl (fun m d => 16 * m + d.toNat) acc

theorem hexNumber_map_hexDigit (acc : Nat) (ds : List (BitVec 4)) :
    hexNumber acc (ds.map hexDigit) = some (hexValueOf acc ds) := by
  induction ds generalizing acc with
  | nil => rfl
  | cons d ds ih => rw [List.map_cons, hexNumber_hexDigit_cons, ih, hexValueOf, hexValueOf, List.foldl_cons]

/-- The hexadecimal digits are the bytes `hexValue` reads. -/
theorem exists_hexDigit_of_hexValue {b : Byte} {n : Nat} (h : hexValue b = some n) :
    ∃ d : BitVec 4, b = hexDigit d := by
  have hall : ∀ b : Byte, (hexValue b).isSome → ∃ d : BitVec 4, b = hexDigit d := by decide
  exact hall b (h ▸ rfl)

theorem exists_hexDigits_of_hexNumber {acc n : Nat} {f : Bytes} (h : hexNumber acc f = some n) :
    ∃ ds : List (BitVec 4), f = ds.map hexDigit := by
  induction f generalizing acc with
  | nil => exact ⟨[], rfl⟩
  | cons b bs ih =>
    rw [hexNumber] at h
    cases hb : hexValue b with
    | none => simp [hb] at h
    | some v =>
      rw [hb] at h
      obtain ⟨d, rfl⟩ := exists_hexDigit_of_hexValue hb
      obtain ⟨ds, rfl⟩ := ih h
      exact ⟨d :: ds, rfl⟩

theorem hexValueOf_eq_ofDigits (ds : List (BitVec 4)) :
    hexValueOf 0 ds = Nat.ofDigits 16 (ds.map BitVec.toNat).reverse := by
  rw [hexValueOf, Nat.ofDigits_eq_foldr, List.foldr_reverse, List.foldl_map]
  simp only [Nat.cast_id, Nat.add_comm]

theorem hexValueOf_lt (ds : List (BitVec 4)) : hexValueOf 0 ds < 16 ^ ds.length := by
  rw [hexValueOf_eq_ofDigits]
  have hlt := Nat.ofDigits_lt_base_pow_length (b := 16) (l := (ds.map BitVec.toNat).reverse) (by decide) fun x hx => by
    obtain ⟨d, -, rfl⟩ := List.mem_map.1 (List.mem_reverse.1 hx)
    exact d.isLt
  simpa using hlt

/-- The digits of a number that begins with none that is 0 are its digits in base 16. -/
theorem digits_hexValueOf {ds : List (BitVec 4)} (h : ds.head? ≠ some 0) :
    Nat.digits 16 (hexValueOf 0 ds) = (ds.map BitVec.toNat).reverse := by
  rw [hexValueOf_eq_ofDigits]
  refine Nat.digits_ofDigits 16 (by decide) _ (fun x hx => ?_) fun hne => ?_
  · obtain ⟨d, -, rfl⟩ := List.mem_map.1 (List.mem_reverse.1 hx)
    exact d.isLt
  · cases ds with
    | nil => exact absurd rfl hne
    | cons d ds =>
      have hlast : ((d :: ds).map BitVec.toNat).reverse.getLast hne = d.toNat := by simp
      rw [hlast]
      exact fun hd => h (congrArg some (BitVec.eq_of_toNat_eq hd))

theorem sep_notMem_map_hexDigit (ds : List (BitVec 4)) : sep ∉ ds.map hexDigit := by
  intro h
  obtain ⟨d, -, hd⟩ := List.mem_map.1 h
  revert d
  decide

theorem sep_notMem_fmtHex2 (a : Byte) : sep ∉ fmtHex2 a :=
  sep_notMem_map_hexDigit [_, _]

theorem sep_notMem_fmtHex (n : Word16) : sep ∉ fmtHex n := by
  obtain ⟨d, ds, hf, -⟩ := fmtHex_eq_map n
  exact hf ▸ sep_notMem_map_hexDigit (d :: ds)

@[simp] theorem parseHex2_fmtHex2 (a : Byte) : parseHex2 (fmtHex2 a) = some a := by
  rw [parseHex2, if_pos (length_fmtHex2 a), hexNumber_fmtHex2, Option.map_some, BitVec.ofNat_toNat, BitVec.setWidth_eq]

@[simp] theorem parseHex_fmtHex (n : Word16) : parseHex (fmtHex n) = some n := by
  have hform : fmtHex n = [0x30] ∨
      (1 ≤ (fmtHex n).length ∧ (fmtHex n).length ≤ 4 ∧ (fmtHex n).head? ≠ some 0x30) := by
    by_cases h : (fmtHex n).head? = some 0x30
    · exact .inl (fmtHex_eq_zero_of_head? h)
    · exact .inr ⟨(length_fmtHex n).1, (length_fmtHex n).2, h⟩
  rw [parseHex, if_pos hform, hexNumber_fmtHex, Option.map_some, BitVec.ofNat_toNat, BitVec.setWidth_eq]

theorem fmtHex2_of_parseHex2 {f : Bytes} {a : Byte} (h : parseHex2 f = some a) : fmtHex2 a = f := by
  unfold parseHex2 at h
  split at h
  · rename_i hlen
    obtain ⟨n, hn, rfl⟩ := Option.map_eq_some_iff.1 h
    obtain ⟨ds, rfl⟩ := exists_hexDigits_of_hexNumber hn
    rw [List.length_map] at hlen
    obtain ⟨d1, d0, rfl⟩ := List.length_eq_two.1 hlen
    have hall : ∀ d1 d0 : BitVec 4, fmtHex2 (BitVec.ofNat 8 (hexValueOf 0 [d1, d0])) = [d1, d0].map hexDigit := by
      decide
    rw [hexNumber_map_hexDigit, Option.some_inj] at hn
    exact hn ▸ hall d1 d0
  · cases h

/-- Both are the digits in base 16 of the number. -/
theorem fmtHex_of_hexNumber {ds : List (BitVec 4)} (hlen : ds.length ≤ 4) (hlead : ds.head? ≠ some 0) (hne : ds ≠ []) :
    fmtHex (BitVec.ofNat 16 (hexValueOf 0 ds)) = ds.map hexDigit := by
  have hlt : hexValueOf 0 ds < 2 ^ 16 := (hexValueOf_lt ds).trans_le (Nat.pow_le_pow_right (by decide) hlen)
  obtain ⟨d, es, hform, -, hzero⟩ := fmtHex_eq_map (BitVec.ofNat 16 (hexValueOf 0 ds))
  have hvalue : hexValueOf 0 (d :: es) = hexValueOf 0 ds := by
    have h := hexNumber_fmtHex (BitVec.ofNat 16 (hexValueOf 0 ds))
    rw [hform, hexNumber_map_hexDigit, BitVec.toNat_ofNat, Nat.mod_eq_of_lt hlt] at h
    exact Option.some.inj h
  have hdigits := digits_hexValueOf hlead
  have hd : d ≠ 0 := by
    rintro rfl
    rw [hzero rfl] at hvalue
    rw [← hvalue] at hdigits
    exact hne (by simpa [hexValueOf] using hdigits)
  rw [← hvalue, digits_hexValueOf (by simpa using hd), List.reverse_inj] at hdigits
  rw [hform, List.map_injective_iff.2 (fun _ _ => BitVec.eq_of_toNat_eq) hdigits]

theorem fmtHex_of_parseHex {f : Bytes} {n : Word16} (h : parseHex f = some n) : fmtHex n = f := by
  unfold parseHex at h
  split at h
  · rename_i hform
    obtain ⟨m, hm, rfl⟩ := Option.map_eq_some_iff.1 h
    obtain rfl | ⟨hpos, hlen, hlead⟩ := hform
    · obtain rfl : 0 = m := Option.some.inj hm
      rfl
    · obtain ⟨ds, rfl⟩ := exists_hexDigits_of_hexNumber hm
      rw [hexNumber_map_hexDigit, Option.some_inj] at hm
      rw [List.length_map] at hpos hlen
      refine hm ▸ fmtHex_of_hexNumber hlen (fun h0 => hlead ?_) (List.ne_nil_of_length_pos hpos)
      rw [List.head?_map, h0]
      rfl
  · cases h

/-! ### Number fields -/

section
variable {α : Type} {parse : Bytes → Option α} {form : α → Bytes}

theorem numField_fieldBytes (hread : ∀ v, parse (form v) = some v) {n : NumField α} (h : n.proper parse = true) :
    numField parse (fieldBytes form n) = n := by
  cases n with
  | value v => exact numField_some (hread v)
  | text f =>
    obtain ⟨-, hnone⟩ := Bool.and_eq_true_iff.1 h
    exact numField_none (Option.isNone_iff_eq_none.1 hnone)

theorem fieldBytes_numField (hform : ∀ f v, parse f = some v → form v = f) (f : Bytes) :
    fieldBytes form (numField parse f) = f := by
  cases h : parse f with
  | none => rw [numField_none h, fieldBytes_text]
  | some v => rw [numField_some h, fieldBytes_value, hform f v h]

theorem proper_numField {f : Bytes} (hf : sep ∉ f) : (numField parse f).proper parse = true := by
  cases h : parse f with
  | none =>
    rw [numField_none h, NumField.proper, argField_eq_true.2 hf, h]
    rfl
  | some v =>
    rw [numField_some h]
    rfl

theorem sep_notMem_fieldBytes (hfree : ∀ v, sep ∉ form v) {n : NumField α} (h : n.proper parse = true) :
    sep ∉ fieldBytes form n := by
  cases n with
  | value v => exact hfree v
  | text f =>
    obtain ⟨hf, -⟩ := Bool.and_eq_true_iff.1 h
    exact argField_eq_true.1 hf

end

/-! ### Packets -/

theorem beBytes_be16 (hi lo : Byte) : beBytes (be16 hi lo) = [hi, lo] := by
  have hhi : (be16 hi lo).extractLsb' 8 8 = hi := by
    unfold be16
    ext i h
    simp [BitVec.getLsbD_eq_getElem h, show 8 + i < 16 by omega]
  have hlo : (be16 hi lo).extractLsb' 0 8 = lo := by
    unfold be16
    ext i h
    simp [h, show i < 16 by omega]
  rw [beBytes, hhi, hlo]

theorem splitPacket_eq_some_iff {bs payload : Bytes} {ck : Word16} :
    splitPacket bs = some (ck, payload) ↔ bs = beBytes ck ++ payload := by
  constructor
  · intro h
    match bs, h with
    | hi :: lo :: rest, h =>
      obtain ⟨rfl, rfl⟩ := Prod.mk.inj (Option.some.inj h)
      rw [beBytes_be16]
      rfl
  · rintro rfl
    exact congrArg (fun v => some (v, payload)) (be16_extractLsb' ck)

theorem validPacket_eq_ok_iff {bs payload : Bytes} {ck : Word16} :
    validPacket bs = .ok (ck, payload) ↔ bs = beBytes ck ++ payload ∧ payload ≠ [] ∧ ck = crc16 payload seed0 := by
  constructor
  · intro h
    match bs, h with
    | hi :: lo :: b :: rest, h =>
      rw [validPacket] at h
      split at h
      · rename_i hv
        obtain ⟨rfl, rfl⟩ := Prod.mk.inj (Except.ok.inj h)
        rw [beBytes_be16]
        exact ⟨rfl, List.cons_ne_nil b rest, (of_decide_eq_true hv).symm⟩
      · cases h
  · rintro ⟨rfl, hne, rfl⟩
    cases payload with
    | nil => exact absurd rfl hne
    | cons b rest =>
      have hv : verify (beBytes (crc16 (b :: rest) seed0) ++ b :: rest) = true := verify_beBytes_cons rfl
      have hbytes := be16_extractLsb' (crc16 (b :: rest) seed0)
      simp only [beBytes, List.cons_append, List.nil_append] at hv ⊢
      rw [validPacket, if_pos hv, hbytes]

/-! ### Requests -/

/-- The fields a stream request joins are those its payload splits into. -/
theorem splitFields_streamPayload {addr : NumField Byte} {fn : Option (NumField Word16)} {args : List Bytes}
    (h : streamFields addr fn args = true) :
    splitFields (streamPayload addr fn args)
      = [0x52] :: fieldBytes fmtHex2 addr :: ((fn.map (fieldBytes fmtHex)).toList ++ args) := by
  simp only [streamFields, Bool.and_eq_true] at h
  obtain ⟨⟨haddr, hargs⟩, hfn⟩ := h
  have hleader : sep ∉ ([0x52] : Bytes) := by decide
  have haddr := sep_notMem_fieldBytes sep_notMem_fmtHex2 haddr
  have hargs := all_argField_eq_true.1 hargs
  cases fn with
  | none =>
    refine splitFields_joinFields (List.cons_ne_nil _ _) ?_
    simp only [List.forall_mem_cons]
    exact ⟨hleader, haddr, hargs⟩
  | some n =>
    refine splitFields_joinFields (List.cons_ne_nil _ _) ?_
    simp only [List.forall_mem_cons]
    exact ⟨hleader, haddr, sep_notMem_fieldBytes sep_notMem_fmtHex hfn, hargs⟩

theorem splitFields_busPayload {fn : NumField Word16} {args : List Bytes} (h : busFields fn args = true) :
    splitFields (busPayload fn args) = fieldBytes fmtHex fn :: args := by
  simp only [busFields, Bool.and_eq_true] at h
  obtain ⟨⟨hfn, hargs⟩, -⟩ := h
  refine splitFields_joinFields (List.cons_ne_nil _ _) ?_
  simp only [List.forall_mem_cons]
  exact ⟨sep_notMem_fieldBytes sep_notMem_fmtHex hfn, all_argField_eq_true.1 hargs⟩

theorem streamPayload_eq_cons (addr : NumField Byte) (fn : Option (NumField Word16)) (args : List Bytes) :
    ∃ rest, streamPayload addr fn args = 0x52 :: rest := by
  cases fn <;> exact ⟨_, rfl⟩

theorem decodeReq_stream_eq_ok_iff {bs : Bytes} {i : Instr} :
    decodeReq .stream bs = .ok i ↔ ∃ ck addr fn args, i = .reqS ck addr fn args ∧
      streamFields addr fn args = true ∧ ck = crc16 (streamPayload addr fn args) seed0 ∧
      bs = beBytes ck ++ streamPayload addr fn args := by
  constructor
  · intro h
    unfold decodeReq at h
    split at h
    · cases h
    · rename_i ck payload hvalid
      obtain ⟨rfl, -, hck⟩ := validPacket_eq_ok_iff.1 hvalid
      have hjoin := joinFields_splitFields payload
      have hfree := sep_notMem_of_mem_splitFields payload
      split at h
      · rename_i leader addr rest _ hsplit
        rw [hsplit] at hjoin hfree
        split at h
        · subst leader
          obtain ⟨-, haddr, hrest⟩ : _ ∧ _ ∧ _ := by simpa only [List.forall_mem_cons] using hfree
          have haddr' := fieldBytes_numField (fun f v => fmtHex2_of_parseHex2 (f := f)) addr
          cases rest with
          | nil =>
            have hpayload : streamPayload (numField parseHex2 addr) none [] = payload := by
              rw [streamPayload, haddr', hjoin]
            refine ⟨ck, _, _, _, (Except.ok.inj h).symm, ?_, hpayload.symm ▸ hck, hpayload.symm ▸ rfl⟩
            simp [streamFields, proper_numField haddr]
          | cons fn args =>
            have hpayload : streamPayload (numField parseHex2 addr) (some (numField parseHex fn)) args = payload := by
              rw [streamPayload, haddr', fieldBytes_numField fun f v => fmtHex_of_parseHex (f := f), hjoin]
            refine ⟨ck, _, _, _, (Except.ok.inj h).symm, ?_, hpayload.symm ▸ hck, hpayload.symm ▸ rfl⟩
            obtain ⟨hfn, hargs⟩ := List.forall_mem_cons.1 hrest
            simp only [streamFields, proper_numField haddr, proper_numField hfn, all_argField_eq_true.2 hargs,
              Bool.and_self]
        · cases h
      · cases h
      · contradiction
      · contradiction
  · rintro ⟨ck, addr, fn, args, rfl, hfields, hck, rfl⟩
    have hsplit := splitFields_streamPayload hfields
    have hvalid : validPacket (beBytes ck ++ streamPayload addr fn args) = .ok (ck, streamPayload addr fn args) := by
      obtain ⟨rest, hcons⟩ := streamPayload_eq_cons addr fn args
      exact validPacket_eq_ok_iff.2 ⟨rfl, hcons ▸ List.cons_ne_nil _ _, hck⟩
    unfold decodeReq
    rw [hvalid]
    simp only [streamFields, Bool.and_eq_true] at hfields
    obtain ⟨⟨haddr, -⟩, hfn⟩ := hfields
    have haddr' := numField_fieldBytes parseHex2_fmtHex2 haddr
    dsimp only
    rw [hsplit]
    cases fn with
    | none =>
      obtain rfl : args = [] := of_decide_eq_true hfn
      simp [haddr']
    | some n => simp [haddr', numField_fieldBytes parseHex_fmtHex hfn]

theorem decodeReq_bus_eq_ok_iff {bs : Bytes} {i : Instr} :
    decodeReq .bus bs = .ok i ↔ ∃ ck fn args, i = .reqB ck fn args ∧
      busFields fn args = true ∧ ck = crc16 (busPayload fn args) seed0 ∧ bs = beBytes ck ++ busPayload fn args := by
  constructor
  · intro h
    unfold decodeReq at h
    split at h
    · cases h
    · rename_i ck payload hvalid
      obtain ⟨rfl, hne, hck⟩ := validPacket_eq_ok_iff.1 hvalid
      have hjoin := joinFields_splitFields payload
      have hfree := sep_notMem_of_mem_splitFields payload
      obtain ⟨fn, args, hsplit⟩ := List.exists_cons_of_ne_nil (splitFields_ne_nil payload)
      rw [hsplit] at h hjoin hfree
      obtain ⟨hfn, hargs⟩ := List.forall_mem_cons.1 hfree
      have hpayload : busPayload (numField parseHex fn) args = payload := by
        rw [busPayload, fieldBytes_numField fun f v => fmtHex_of_parseHex (f := f), hjoin]
      refine ⟨ck, _, _, (Except.ok.inj h).symm, ?_, hpayload.symm ▸ hck, hpayload.symm ▸ rfl⟩
      simp only [busFields, proper_numField hfn, all_argField_eq_true.2 hargs, hpayload, hne, ne_eq, not_false_eq_true,
        decide_true, Bool.and_self]
  · rintro ⟨ck, fn, args, rfl, hfields, hck, rfl⟩
    have hsplit := splitFields_busPayload hfields
    simp only [busFields, Bool.and_eq_true, decide_eq_true_eq] at hfields
    obtain ⟨⟨hfn, -⟩, hne⟩ := hfields
    unfold decodeReq
    rw [validPacket_eq_ok_iff.2 ⟨rfl, hne, hck⟩]
    dsimp only
    rw [hsplit]
    simp only [numField_fieldBytes parseHex_fmtHex hfn]

/-! ### Responses -/

theorem decodeResp_eq_ok_iff {bs : Bytes} {i : Instr} :
    decodeResp bs = .ok i ↔ ∃ ck h rest, ck = crc16 (h :: rest) seed0 ∧ bs = beBytes ck ++ h :: rest ∧
      i = if h = statusE then .respE ck rest else if h = statusS then .respS ck rest
        else if h = statusF then .respF ck rest else .respReserved ck h rest := by
  constructor
  · intro h
    unfold decodeResp at h
    split at h
    · cases h
    · cases h
    · rename_i ck status rest hvalid
      obtain ⟨rfl, -, hck⟩ := validPacket_eq_ok_iff.1 hvalid
      refine ⟨ck, status, rest, hck, rfl, ?_⟩
      split_ifs at h ⊢ <;> exact (Except.ok.inj h).symm
  · rintro ⟨ck, status, rest, hck, rfl, rfl⟩
    unfold decodeResp
    rw [validPacket_eq_ok_iff.2 ⟨rfl, List.cons_ne_nil status rest, hck⟩]
    dsimp only
    split_ifs <;> rfl

/-! ### Stream wire packets and headers -/

theorem decodeWireS_eq_ok_iff {c : Config} {d : Direction} {bs : Bytes} {i : Instr} :
    decodeWireS c d bs = .ok i ↔ ∃ ck payload, i = .wireS d ck payload ∧ c.term ∉ payload ∧
      bs = beBytes ck ++ payload ++ [c.term] := by
  constructor
  · intro h
    unfold decodeWireS at h
    split at h
    · cases h
    · rename_i ck rest hsplit
      obtain rfl := splitPacket_eq_some_iff.1 hsplit
      split at h
      · rename_i hlast
        split at h
        · cases h
        · rename_i hterm
          refine ⟨ck, _, (Except.ok.inj h).symm, by simpa using hterm, ?_⟩
          rw [List.append_assoc, List.dropLast_append_getLast? _ hlast]
      · cases h
  · rintro ⟨ck, payload, rfl, hterm, rfl⟩
    unfold decodeWireS
    rw [List.append_assoc, splitPacket_eq_some_iff.2 rfl]
    simp [hterm]

theorem decodeHeader_eq_ok_iff {c : Config} {bs : Bytes} {i : Instr} :
    decodeHeader c bs = .ok i ↔ ∃ status length hck, bs = [status, length, hck] ∧
      i = if c.isNak status then .busHdrNak status length hck else .busHdr status length hck := by
  constructor
  · intro h
    match bs, h with
    | [status, length, hck], h => exact ⟨status, length, hck, rfl, (Except.ok.inj h).symm⟩
  · rintro ⟨status, length, hck, rfl, rfl⟩
    rfl

/-! ### Every channel -/

section
variable {c : Config} {bs : Bytes} {i : Instr}

theorem decode_packet_eq_ok_iff :
    decode c .packet bs = .ok i ↔ ∃ ck payload, bs = beBytes ck ++ payload ∧ i = .pkt ck payload := by
  simp only [decode, ← splitPacket_eq_some_iff]
  rcases splitPacket bs with _ | ⟨ck, payload⟩ <;> simp [eq_comm]

theorem decode_busWrite_eq_ok_iff :
    decode c .busWrite bs = .ok i ↔ ∃ ck payload, bs = beBytes ck ++ payload ∧ i = .wireBReq ck payload := by
  simp only [decode, ← splitPacket_eq_some_iff]
  rcases splitPacket bs with _ | ⟨ck, payload⟩ <;> simp [eq_comm]

theorem decode_busBody_eq_ok_iff :
    decode c .busBody bs = .ok i ↔ ∃ ck payload, bs = beBytes ck ++ payload ∧ payload.length ≤ 253 ∧
      i = .wireBBody ck payload := by
  simp only [decode, ← splitPacket_eq_some_iff]
  rcases splitPacket bs with _ | ⟨ck, payload⟩
  · simp
  · by_cases hlen : payload.length ≤ 253 <;> simp [hlen, eq_comm]

/-- The control packet is no request: its payload begins with another byte. -/
theorem decode_streamRequest_eq_ok_iff :
    decode c .streamRequest bs = .ok i ↔
      (i = .rqResend ∧ bs = resendPacket) ∨ decodeReq .stream bs = .ok i := by
  simp only [decode]
  split
  · rename_i hbs
    have hreq : decodeReq .stream bs ≠ .ok i := by
      intro h
      obtain ⟨ck, addr, fn, args, -, -, -, hbytes⟩ := decodeReq_stream_eq_ok_iff.1 h
      obtain ⟨rest, hpayload⟩ := streamPayload_eq_cons addr fn args
      rw [hbs, hpayload] at hbytes
      simp [resendPacket, beBytes] at hbytes
    exact ⟨fun h => .inl ⟨(Except.ok.inj h).symm, hbs⟩, fun h => h.elim (fun h => h.1 ▸ rfl) fun h => absurd h hreq⟩
  · rename_i hbs
    simp [hbs]

theorem decode_eq_ok_iff {ch : Channel} :
    decode c ch bs = .ok i ↔ i.wellFormed c = true ∧ encode c i = some (ch, bs) := by
  constructor
  · intro h
    cases ch with
    | packet =>
      obtain ⟨ck, payload, rfl, rfl⟩ := decode_packet_eq_ok_iff.1 h
      exact ⟨rfl, rfl⟩
    | streamWire d =>
      obtain ⟨ck, payload, rfl, hterm, rfl⟩ := decodeWireS_eq_ok_iff.1 h
      exact ⟨by simpa [Instr.wellFormed] using hterm, rfl⟩
    | busWrite =>
      obtain ⟨ck, payload, rfl, rfl⟩ := decode_busWrite_eq_ok_iff.1 h
      exact ⟨rfl, rfl⟩
    | busHeader =>
      obtain ⟨status, length, hck, rfl, rfl⟩ := decodeHeader_eq_ok_iff.1 h
      cases hnak : c.isNak status <;> simp [Instr.wellFormed, encode, hnak]
    | busBody =>
      obtain ⟨ck, payload, rfl, hlen, rfl⟩ := decode_busBody_eq_ok_iff.1 h
      exact ⟨decide_eq_true hlen, rfl⟩
    | streamRequest =>
      obtain ⟨rfl, rfl⟩ | h := decode_streamRequest_eq_ok_iff.1 h
      · exact ⟨rfl, rfl⟩
      · obtain ⟨ck, addr, fn, args, rfl, hfields, hck, rfl⟩ := decodeReq_stream_eq_ok_iff.1 h
        exact ⟨Bool.and_eq_true_iff.2 ⟨hfields, decide_eq_true hck⟩, rfl⟩
    | busRequest =>
      obtain ⟨ck, fn, args, rfl, hfields, hck, rfl⟩ := decodeReq_bus_eq_ok_iff.1 h
      exact ⟨Bool.and_eq_true_iff.2 ⟨hfields, decide_eq_true hck⟩, rfl⟩
    | response =>
      obtain ⟨ck, status, rest, hck, rfl, rfl⟩ := decodeResp_eq_ok_iff.1 h
      split_ifs with hE hS hF
      · exact ⟨decide_eq_true (hE ▸ hck), hE ▸ rfl⟩
      · exact ⟨decide_eq_true (hS ▸ hck), hS ▸ rfl⟩
      · exact ⟨decide_eq_true (hF ▸ hck), hF ▸ rfl⟩
      · exact ⟨by simp [Instr.wellFormed, checksumOf, hE, hS, hF, ← hck], rfl⟩
  · rintro ⟨hwf, henc⟩
    cases i with
    | pkt ck payload =>
      cases henc
      exact decode_packet_eq_ok_iff.2 ⟨ck, payload, rfl, rfl⟩
    | wireS d ck payload =>
      cases henc
      exact decodeWireS_eq_ok_iff.2 ⟨ck, payload, rfl, by simpa [Instr.wellFormed] using hwf, rfl⟩
    | wireBReq ck payload =>
      cases henc
      exact decode_busWrite_eq_ok_iff.2 ⟨ck, payload, rfl, rfl⟩
    | busHdr status length hck =>
      cases henc
      exact decodeHeader_eq_ok_iff.2 ⟨status, length, hck, rfl, by simp_all [Instr.wellFormed]⟩
    | busHdrNak status length hck =>
      cases henc
      exact decodeHeader_eq_ok_iff.2 ⟨status, length, hck, rfl, by simp_all [Instr.wellFormed]⟩
    | wireBBody ck payload =>
      cases henc
      exact decode_busBody_eq_ok_iff.2 ⟨ck, payload, rfl, of_decide_eq_true hwf, rfl⟩
    | reqS ck addr fn args =>
      cases henc
      obtain ⟨hfields, hck⟩ := Bool.and_eq_true_iff.1 hwf
      exact decode_streamRequest_eq_ok_iff.2 (.inr (decodeReq_stream_eq_ok_iff.2
        ⟨ck, addr, fn, args, rfl, hfields, of_decide_eq_true hck, rfl⟩))
    | reqB ck fn args =>
      cases henc
      obtain ⟨hfields, hck⟩ := Bool.and_eq_true_iff.1 hwf
      exact decodeReq_bus_eq_ok_iff.2 ⟨ck, fn, args, rfl, hfields, of_decide_eq_true hck, rfl⟩
    | respS ck rest =>
      cases henc
      exact decodeResp_eq_ok_iff.2 ⟨ck, statusS, rest, of_decide_eq_true hwf, rfl, rfl⟩
    | respF ck rest =>
      cases henc
      exact decodeResp_eq_ok_iff.2 ⟨ck, statusF, rest, of_decide_eq_true hwf, rfl, rfl⟩
    | respE ck rest =>
      cases henc
      exact decodeResp_eq_ok_iff.2 ⟨ck, statusE, rest, of_decide_eq_true hwf, rfl, rfl⟩
    | respReserved ck status rest =>
      cases henc
      simp only [Instr.wellFormed, Bool.and_eq_true, decide_eq_true_eq] at hwf
      obtain ⟨⟨⟨hS, hF⟩, hE⟩, hck⟩ := hwf
      exact decodeResp_eq_ok_iff.2 ⟨ck, status, rest, of_decide_eq_true hck, rfl, by simp [hS, hF, hE]⟩
    | rqResend =>
      cases henc
      exact decode_streamRequest_eq_ok_iff.2 (.inl ⟨rfl, rfl⟩)
    | _ => cases henc

end

/-! ### The request operations -/

theorem plainArg_eq_true {v : Value} : plainArg v = true ↔ encodable v = true ∧ sep ∉ asciiBytes (fmtArg v) := by
  rw [plainArg, Bool.and_eq_true, ← argField_eq_true, argField]

theorem encodeRequest_of_plain (address : Option Byte) (fn : Word16) {args : List Value}
    (h : args.all plainArg = true) :
    encodeRequest address fn args
      = some (mkPacket (requestPayload address fn (args.map fun v => asciiBytes (fmtArg v)))) := by
  have hencodable : args.all encodable = true :=
    List.all_eq_true.2 fun v hv => (plainArg_eq_true.1 (List.all_eq_true.1 h v hv)).1
  rw [encodeRequest, if_pos hencodable]

theorem splitFields_requestPayload (address : Option Byte) (fn : Word16) {fields : List Bytes}
    (h : ∀ f ∈ fields, sep ∉ f) :
    splitFields (requestPayload address fn fields) = headFields address fn ++ fields := by
  have hhead : ∀ f ∈ headFields address fn, sep ∉ f := by
    cases address with
    | none => exact List.forall_mem_singleton.2 (sep_notMem_fmtHex fn)
    | some a =>
      simp only [headFields, List.forall_mem_cons]
      exact ⟨by decide, sep_notMem_fmtHex2 a, sep_notMem_fmtHex fn, List.forall_mem_nil _⟩
  have hne : headFields address fn ++ fields ≠ [] := by cases address <;> exact List.cons_ne_nil _ _
  exact splitFields_joinFields hne (List.forall_mem_append.2 ⟨hhead, h⟩)

/-- The transport kind whose requests carry that address field (41_packet_codec.md R163). -/
def kindOfAddress : Option Byte → Kind
  | some _ => .stream
  | none => .bus

theorem decodeFields_requestPayload (address : Option Byte) (fn : Word16) {fields : List Bytes}
    (h : ∀ f ∈ fields, sep ∉ f) :
    decodeFields (kindOfAddress address) (requestPayload address fn fields) = .ok ⟨address, fn, fields⟩ := by
  have hsplit := splitFields_requestPayload address fn h
  cases address with
  | none =>
    rw [kindOfAddress, decodeFields, hsplit]
    simp [headFields, decodeBusFields]
  | some a =>
    rw [kindOfAddress, decodeFields, hsplit]
    simp [headFields, decodeStreamFields]

theorem verify_mkPacket {payload : Bytes} (h : payload ≠ []) : verify (mkPacket payload) = true := by
  obtain ⟨b, rest, rfl⟩ := List.exists_cons_of_ne_nil h
  exact verify_beBytes_cons rfl

theorem State.runVerify_mkPacket (s : State) {payload : Bytes} (h : payload ≠ []) :
    s.runVerify (mkPacket payload) = s.setCrc (crc16 payload seed0) :=
  s.runVerify_cons_cons _ _ h

theorem exec_decodeRequest_ok {packet : Bytes} {kind : Kind} {r : Request} (h : decodeRequest packet kind = .ok r)
    (s : State) : exec (.decodeRequest packet kind) s = .next ((s.runVerify packet).setReply (.request r)) := by
  change execDecodeRequest packet kind s = _
  rw [execDecodeRequest, h]

theorem exec_decodeRequest_error {packet : Bytes} {kind : Kind} {e : DecodeError}
    (h : decodeRequest packet kind = .error e) (s : State) :
    exec (.decodeRequest packet kind) s = .next ((s.runVerify packet).setReply (.decodeError e)) := by
  change execDecodeRequest packet kind s = _
  rw [execDecodeRequest, h]

theorem decodeFields_error {kind : Kind} {payload : Bytes} {e : DecodeError}
    (h : decodeFields kind payload = .error e) : e = .malformed := by
  cases kind with
  | stream =>
    simp only [decodeFields, decodeStreamFields] at h
    split at h
    · split at h
      · split at h
        · cases h
        · exact (Except.error.inj h).symm
      · exact (Except.error.inj h).symm
    · exact (Except.error.inj h).symm
  | bus =>
    simp only [decodeFields, decodeBusFields] at h
    split at h
    · split at h
      · cases h
      · exact (Except.error.inj h).symm
    · exact (Except.error.inj h).symm

theorem exec_frameS (packet : Bytes) (s : State) :
    exec (.frameS packet) s = .next (s.setReply (.bytes (packet ++ [s.cfg.term]))) := rfl

/-- The round trip on the transport whose kind goes with the address. -/
theorem request_roundTrip (s : State) (address : Option Byte) (fn : Word16) {args : List Value}
    (h : args.all plainArg = true) : ∃ p : Bytes,
    exec (.encodeRequest address fn args) s
      = .next ((s.setCrc (crc16 (p.drop 2) seed0)).setReply (.bytes p)) ∧
    exec (.decodeRequest p (kindOfAddress address)) s
      = .next ((s.setCrc (crc16 (p.drop 2) seed0)).setReply
          (.request ⟨address, fn, args.map fun v => asciiBytes (fmtArg v)⟩)) := by
  have hfree : ∀ f ∈ args.map fun v => asciiBytes (fmtArg v), sep ∉ f :=
    List.forall_mem_map.2 fun v hv => (plainArg_eq_true.1 (List.all_eq_true.1 h v hv)).2
  have hdecode := decodeFields_requestPayload address fn hfree
  have hne : requestPayload address fn (args.map fun v => asciiBytes (fmtArg v)) ≠ [] := by
    intro hnil
    rw [hnil] at hdecode
    cases address <;> cases hdecode
  refine ⟨_, exec_encodeRequest_of_some (encodeRequest_of_plain address fn h) s, ?_⟩
  have hrequest : decodeRequest (mkPacket (requestPayload address fn (args.map fun v => asciiBytes (fmtArg v))))
      (kindOfAddress address) = .ok ⟨address, fn, args.map fun v => asciiBytes (fmtArg v)⟩ := by
    rw [decodeRequest, if_pos (verify_mkPacket hne), payloadOf_mkPacket, hdecode]
  rw [exec_decodeRequest_ok hrequest, State.runVerify_mkPacket s hne]
  rfl

end Sys2Proof.Machine

namespace Sys2Proof
open Machine

/-- Settles O2: one direction of `decode_eq_ok_iff`. -/
theorem decodeOfEncodeIsIdentity : Obligations.DecodeOfEncodeIsIdentity := by
  unfold Obligations.DecodeOfEncodeIsIdentity
  exact fun c i ch bs hwf henc => decode_eq_ok_iff.2 ⟨hwf, henc⟩

/-- Settles O3: the other direction of `decode_eq_ok_iff`. -/
theorem decodedUnitsReencodeToTheSameBytes : Obligations.DecodedUnitsReencodeToTheSameBytes := by
  unfold Obligations.DecodedUnitsReencodeToTheSameBytes
  exact fun c i ch bs => decode_eq_ok_iff.1

/-- Settles O15: the payload splits into the fields it was joined from, and each number reads back. -/
theorem requestRoundTrip : Obligations.RequestRoundTrip := by
  unfold Obligations.RequestRoundTrip
  exact fun s fn args h => ⟨fun a => request_roundTrip s (some a) fn h, request_roundTrip s none fn h⟩

/-- Settles O19: the error for a checksum is the test of `VERIFY` itself; the fields of a payload never give it. -/
theorem decodeRequestAnswersEveryPacket : Obligations.DecodeRequestAnswersEveryPacket := by
  unfold Obligations.DecodeRequestAnswersEveryPacket
  intro s packet kind
  have hframe : ∀ r, (s.runVerify packet).setReply r = (s.setCrc (s.runVerify packet).crc).setReply r := fun r =>
    congrArg (State.setReply · r) (s.runVerify_eq_setCrc packet)
  cases hverify : verify packet with
  | false =>
    have herror : decodeRequest packet kind = .error .badChecksum := by simp [decodeRequest, hverify]
    exact ⟨_, exec_decodeRequest_error herror s, hframe _, by simp, by simp⟩
  | true =>
    have hfields : decodeRequest packet kind = decodeFields kind (payloadOf packet) := if_pos hverify
    cases h : decodeFields kind (payloadOf packet) with
    | ok r => exact ⟨_, exec_decodeRequest_ok (hfields.trans h) s, hframe _, by simp, by simp⟩
    | error e =>
      obtain rfl := decodeFields_error h
      exact ⟨_, exec_decodeRequest_error (hfields.trans h) s, hframe _, by simp, by simp⟩

/-- Settles O1: the words of 95_test_vectors.md, each decoded by evaluation. -/
theorem decoderReadsWrittenWords : Obligations.DecoderReadsWrittenWords := by
  unfold Obligations.DecoderReadsWrittenWords
  decide +kernel

/-- Settles O17: the equation of `FRAME_S`. -/
theorem frameAppendsTerminator : Obligations.FrameAppendsTerminator := by
  unfold Obligations.FrameAppendsTerminator
  exact fun s packet => exec_frameS packet s

end Sys2Proof
end

section
/-!
PROOFS. What one step does to the registers of the session it is for and to the locks: one relation, `Session.Move`,
that every step but `RESET` follows (10_state.md R27 to R29, 43_retry_engine.md R231 to R247, 45_host_ops.md R301 to
R305).
-/

namespace Sys2Proof.Machine

/-! ### What the classifier does to the registers -/

/-- The class's counters move (43_retry_engine.md R237 to R244). -/
inductive Session.Counted (c : Config) (se : Session) : Session → Prop where
  | none : Counted c se se
  | noFrame : Counted c se { se with readCrcErrors := bump c se.readCrcErrors, nNoframe := se.nNoframe + 1 }
  | corrupt : Counted c se { se with readCrcErrors := bump c se.readCrcErrors, nCorrupt := se.nCorrupt + 1 }
  | nak : Counted c se { se with writeCrcErrors := bump c se.writeCrcErrors, nNak := se.nNak + 1 }
  | hdrBad : Counted c se { se with
      readCrcErrors := bump c se.readCrcErrors, nCorrupt := se.nCorrupt + 1, nHdr := se.nHdr + 1 }
  | hdrNak : Counted c se { se with
      writeCrcErrors := bump c se.writeCrcErrors, nNak := se.nNak + 1, nHdr := se.nHdr + 1 }

/-- The class prepares the next attempt (R237 to R239, R243, R244). -/
inductive Session.Prepared (c : Config) (se : Session) : Session → Prop where
  | original : Prepared c se { se with txSel := .original }
  | resendRq : se.kind = .stream → Prepared c se { se with txSel := .resendRq }
  | rewrite : Prepared c se se
  | readOnly : se.acq = .hdrBad ∨ se.acq = .hdrNak → c.busHdrPolicy = .readOnly →
      Prepared c se { se with skipWrite := true }

/-- The registers the classifier leaves (R236): of a retry, of an error raised, of a success. -/
inductive Session.Classified (c : Config) (se : Session) : Session → Prop where
  | retry {se₁ se₂ : Session} (ok : Bool) (cls : TraceClass) (a : TraceAction) :
      Session.Counted c { se with ckOk := ok } se₁ → budgetLeft c se₁ = true → Session.Prepared c se₁ se₂ →
      Classified c se { se₂.record cls a with st := .retry }
  | raised {se₁ : Session} (ok : Bool) (cls : TraceClass) (tag : ErrTag) (d : Bytes) :
      Session.Counted c { se with ckOk := ok } se₁ → Classified c se (se₁.raiseError cls tag d)
  | success (payload : Bytes) : Classified c se ({ se with ckOk := true }.class4 payload)

/-! ### What a step does to the registers -/

/-- What a move does to the locks (20_memory.md R72). -/
inductive LockUse where
  /-- The locks stay. -/
  | keeps
  /-- The session takes its link's lock, which was free. -/
  | takes
  /-- The session's link is free afterwards. -/
  | frees
  /-- A link that was not in the registry is free afterwards. -/
  | clears (link : LinkId)

/-- One step of the frame acquirer, or of the send that starts it (42_frame_acquirer.md R190 to R205, R233, R234). -/
inductive Session.AcquirerMove (c : Config) (se : Session) : Session → Prop where
  | sends : se.isOpen = true → se.kind = .stream → se.st = .sending →
      AcquirerMove c se { se.startAcquire with st := .awaiting }
  | firstByte (b : Byte) : se.isOpen = true → se.kind = .stream → se.fs = .ck0 →
      AcquirerMove c se { se with rxBuf := [b], fs := .ck1 }
  | secondByte (b : Byte) : se.isOpen = true → se.kind = .stream → se.fs = .ck1 →
      AcquirerMove c se { se with rxBuf := se.rxBuf ++ [b], fs := .body }
  | bodyByte (b : Byte) : se.isOpen = true → se.kind = .stream → se.fs = .body →
      AcquirerMove c se { se with rxBuf := se.rxBuf ++ [b] }
  | frames : se.isOpen = true → se.kind = .stream → se.fs = .body →
      AcquirerMove c se { se with termSeen := true, acq := .frame se.rxBuf, fs := .idle }
  | flushes : se.isOpen = true → se.kind = .stream → se.fs = .ck0 ∨ se.fs = .ck1 ∨ se.fs = .body →
      AcquirerMove c se { se with rxBuf := [], fs := .settle }
  | settles : se.isOpen = true → se.kind = .stream → se.fs = .settle →
      AcquirerMove c se { se with acq := .noFrame, fs := .idle }
  | startsExchange : se.isOpen = true → se.kind = .bus → se.st = .sending → se.bx = .idle →
      AcquirerMove c se se.startExchange
  | writes : se.isOpen = true → se.kind = .bus → se.st = .sending → se.bx = .write →
      AcquirerMove c se { se with bx := .hdr, st := .awaiting }
  | takesHeader (h : Bytes) : se.isOpen = true → se.kind = .bus → se.st = .awaiting → se.bx = .hdr →
      AcquirerMove c se (se.takeHeader c h)
  | checksHeader : se.isOpen = true → se.kind = .bus → se.st = .awaiting → se.bx = .hdr →
      AcquirerMove c se (se.checkHeader c)
  | takesBody (b : Bytes) : se.isOpen = true → se.kind = .bus → se.st = .awaiting → se.bx = .body →
      AcquirerMove c se (se.takeBody b)

/-- One step of the session with registers `se` on an instance with parameters `c`: the use of the locks, and the
registers afterwards. -/
inductive Session.Move (c : Config) (se : Session) : LockUse → Session → Prop where
  | stays : Move c se .keeps se
  | enters (kind : Kind) (addr : Byte) (link : LinkId) : se.isOpen = false → addr.toNat ≤ addrMax →
      Move c se (.clears link) (Session.opened kind addr link)
  | joins (kind : Kind) (addr : Byte) (link : LinkId) : se.isOpen = false → addr.toNat ≤ addrMax →
      Move c se .keeps (Session.opened kind addr link)
  | closes : se.isOpen = true → se.st = .idle → Move c se .keeps se.closed
  | waits (call : Option (Word16 × List Value)) : se.isOpen = true → se.st = .idle →
      Move c se .keeps { se with waiting := call }
  | startsCall (pkt : Bytes) : se.isOpen = true → se.st = .idle → Move c se .takes (se.startCall pkt)
  | acquirer {se' : Session} : Session.AcquirerMove c se se' → Move c se .keeps se'
  | acquires : se.isOpen = true → se.st = .awaiting → se.acquirerIdle = true → Move c se .keeps se.acquired
  | goesOn {se' : Session} : se.isOpen = true → se.st = .classifying → Session.Classified c se se' →
      se'.st ≠ .fatal → Move c se .keeps se'
  | raises {se' : Session} : se.isOpen = true → se.st = .classifying → Session.Classified c se se' →
      se'.st = .fatal → Move c se .frees { se' with st := .idle }
  | retries : se.isOpen = true → se.st = .retry → Move c se .keeps { se with st := .sending }
  | ends : se.isOpen = true → se.st = .success ∨ se.st = .fatal → Move c se .frees { se with st := .idle }

/-- The locks of `t` are those of `s` after the use of them by the session `s` is at. -/
def LockUse.Meets (s t : State) : LockUse → Prop
  | .keeps => t.locks = s.locks
  | .takes => s.lockOf s.sess.linkId = none ∧ t.locks = (s.takeLock s.sess.linkId).locks
  | .frees => t.locks = (s.freeLock s.sess.linkId).locks
  | .clears link => s.regEntry link = none ∧ t.locks = (s.freeLock link).locks

/-- Between `s` and `t` the session `s` is at moves, and every other session and the configuration stay. -/
structure Moves (s t : State) : Prop where
  cfg : t.cfg = s.cfg
  cur : t.cur = s.cur
  others : ∀ sid, sid ≠ s.cur → t.session sid = s.session sid
  move : ∃ use, Session.Move s.cfg s.sess use t.sess ∧ use.Meets s t

/-- The configuration, the sessions and the locks are the same. -/
structure SameSessions (s t : State) : Prop where
  cfg : t.cfg = s.cfg
  cur : t.cur = s.cur
  sessions : t.sessions = s.sessions
  locks : t.locks = s.locks

namespace SameSessions
variable {s t : State}

theorem refl (s : State) : SameSessions s s := ⟨rfl, rfl, rfl, rfl⟩

theorem session (h : SameSessions s t) (sid : SessId) : t.session sid = s.session sid := by
  rw [State.session, h.sessions, State.session]

theorem sess (h : SameSessions s t) : t.sess = s.sess := by
  rw [State.sess, h.cur, h.session, State.sess]

theorem setCrc (h : SameSessions s t) (v : Word16) : SameSessions s (t.setCrc v) :=
  ⟨h.cfg, h.cur, h.sessions, h.locks⟩

theorem setReply (h : SameSessions s t) (r : Reply) : SameSessions s (t.setReply r) :=
  ⟨h.cfg, h.cur, h.sessions, h.locks⟩

theorem bumpFree (h : SameSessions s t) : SameSessions s t.bumpFree :=
  ⟨h.cfg, h.cur, h.sessions, h.locks⟩

theorem setReg (h : SameSessions s t) (l : LinkId) (e : RegEntry) : SameSessions s (t.setReg l e) :=
  ⟨h.cfg, h.cur, h.sessions, h.locks⟩

theorem dropReg (h : SameSessions s t) (l : LinkId) : SameSessions s (t.dropReg l) :=
  ⟨h.cfg, h.cur, h.sessions, h.locks⟩

theorem setRx (h : SameSessions s t) (l : LinkId) (b : Bytes) : SameSessions s (t.setRx l b) :=
  ⟨h.cfg, h.cur, h.sessions, h.locks⟩

theorem setTx (h : SameSessions s t) (l : LinkId) (b : Bytes) : SameSessions s (t.setTx l b) :=
  ⟨h.cfg, h.cur, h.sessions, h.locks⟩

theorem setWire (h : SameSessions s t) (l : LinkId) (b : Bytes) : SameSessions s (t.setWire l b) :=
  ⟨h.cfg, h.cur, h.sessions, h.locks⟩

theorem logBus (h : SameSessions s t) (l : LinkId) (x : BusTxn) : SameSessions s (t.logBus l x) :=
  ⟨h.cfg, h.cur, h.sessions, h.locks⟩

theorem leaveLink (h : SameSessions s t) (l : LinkId) : SameSessions s (t.leaveLink l) := by
  unfold State.leaveLink
  split
  · exact h
  · split
    · exact h.dropReg l
    · exact h.setReg l _

theorem runVerify (h : SameSessions s t) (p : Bytes) : SameSessions s (t.runVerify p) := by
  rw [State.runVerify_eq_setCrc]
  exact h.setCrc _

theorem checkAcquired (h : SameSessions s t) : SameSessions s t.checkAcquired := by
  rw [State.checkAcquired_eq]
  exact h.setCrc _

theorem moves (h : SameSessions s t) : Moves s t :=
  ⟨h.cfg, h.cur, fun sid _ => h.session sid, .keeps, h.sess.symm ▸ .stays, h.locks⟩

end SameSessions

/-- A write of the current session's registers that is a move. -/
theorem Moves.of_setSess {s u : State} {use : LockUse} {se : Session} (hcfg : u.cfg = s.cfg) (hcur : u.cur = s.cur)
    (hsessions : u.sessions = s.sessions) (hmove : Session.Move s.cfg s.sess use se)
    (hlocks : use.Meets s (u.setSess se)) : Moves s (u.setSess se) where
  cfg := hcfg
  cur := hcur
  others sid hsid := by
    rw [State.session_setSess_other u se (hcur.symm ▸ hsid), State.session, hsessions, State.session]
  move := ⟨use, (State.sess_setSess u se).symm ▸ hmove, hlocks⟩

theorem Moves.setReply {s t : State} (h : Moves s t) (r : Reply) : Moves s (t.setReply r) :=
  ⟨h.cfg, h.cur, h.others, h.move⟩

theorem SameSessions.setSess {s t : State} (h : SameSessions s t) {se : Session}
    (hmove : Session.Move s.cfg s.sess .keeps se) : Moves s (t.setSess se) :=
  .of_setSess h.cfg h.cur h.sessions hmove h.locks

/-! ### The guards -/

section
variable {se : Session}

theorem Session.onStream_iff : se.onStream = true ↔ se.isOpen = true ∧ se.kind = .stream := by
  rw [Session.onStream, Bool.and_eq_true, decide_eq_true_eq]

theorem Session.onBus_iff : se.onBus = true ↔ se.isOpen = true ∧ se.kind = .bus := by
  rw [Session.onBus, Bool.and_eq_true, decide_eq_true_eq]

theorem Session.atStreamSend_iff :
    se.atStreamSend = true ↔ se.isOpen = true ∧ se.kind = .stream ∧ se.st = .sending := by
  rw [Session.atStreamSend, Bool.and_eq_true, decide_eq_true_eq, Session.onStream_iff, and_assoc]

theorem Session.atBusWrite_iff :
    se.atBusWrite = true ↔ se.isOpen = true ∧ se.kind = .bus ∧ se.bx = .write ∧ se.st = .sending := by
  simp only [Session.atBusWrite, Bool.and_eq_true, decide_eq_true_eq, Session.onBus_iff, and_assoc]

theorem Session.atHeader_iff :
    se.atHeader = true ↔ se.isOpen = true ∧ se.kind = .bus ∧ se.bx = .hdr ∧ se.st = .awaiting := by
  simp only [Session.atHeader, Bool.and_eq_true, decide_eq_true_eq, Session.onBus_iff, and_assoc]

theorem Session.atBody_iff :
    se.atBody = true ↔ se.isOpen = true ∧ se.kind = .bus ∧ se.bx = .body ∧ se.st = .awaiting := by
  simp only [Session.atBody, Bool.and_eq_true, decide_eq_true_eq, Session.onBus_iff, and_assoc]

theorem Session.atClassify_iff : se.atClassify = true ↔ se.isOpen = true ∧ se.st = .classifying := by
  rw [Session.atClassify, Bool.and_eq_true, decide_eq_true_eq]

end

/-! ### The classifier -/

section
variable {c : Config} {se se₁ : Session}

theorem Session.Classified.retryOrFail {cls : TraceClass} {a : TraceAction} {prepare : Session → Session} {tag : ErrTag}
    {d : Bytes} (ok : Bool) (hcount : Session.Counted c { se with ckOk := ok } se₁)
    (hprepare : Session.Prepared c se₁ (prepare se₁)) :
    Session.Classified c se (se₁.retryOrFail c cls a prepare tag d) := by
  cases hbudget : budgetLeft c se₁ with
  | true =>
    rw [Session.retryOrFail_budget hbudget]
    exact .retry ok cls a hcount hbudget hprepare
  | false =>
    rw [Session.retryOrFail_exhausted hbudget]
    exact .raised ok cls tag d hcount

theorem Session.Prepared.prepareClass2 : Session.Prepared c se se.prepareClass2 := by
  rw [Session.prepareClass2_eq]
  split
  · exact .resendRq ‹_›
  · exact .original

theorem Session.Prepared.prepareHeader (hacq : se.acq = .hdrBad ∨ se.acq = .hdrNak) :
    Session.Prepared c se (se.prepareHeader c) := by
  unfold Session.prepareHeader
  split
  · exact .rewrite
  · exact .readOnly hacq ‹_›

theorem Session.Classified.class2 (ok : Bool) : Session.Classified c se ({ se with ckOk := ok }.class2 c) :=
  .retryOrFail ok .corrupt .prepareClass2

theorem Session.Classified.class3 (ok : Bool) : Session.Classified c se ({ se with ckOk := ok }.class3 c) :=
  .retryOrFail ok .nak .original

theorem Session.Classified.classStatus (payload : Bytes) :
    Session.Classified c se ({ se with ckOk := true }.classStatus c payload) := by
  unfold Session.classStatus
  split
  · exact .class2 true
  · split_ifs
    · exact .class3 true
    · exact .success _
    · exact .raised true _ _ _ .none
    · exact .raised true _ _ _ .none

theorem Session.Classified.classify : Session.Classified c se (se.classify c) := by
  cases hacq : se.acq with
  | noFrame =>
    rw [Session.classify_noFrame c hacq]
    exact .retryOrFail se.ckOk .noFrame .original
  | hdrBad =>
    rw [Session.classify_hdrBad c hacq]
    exact .retryOrFail se.ckOk .hdrBad (.prepareHeader (.inl hacq))
  | hdrNak =>
    rw [Session.classify_hdrNak c hacq]
    exact .retryOrFail se.ckOk .hdrNak (.prepareHeader (.inr hacq))
  | frame p =>
    cases hverify : verify p with
    | true =>
      rw [Session.classify_validFrame c hacq hverify]
      exact .classStatus _
    | false =>
      rw [Session.classify_corruptFrame c hacq hverify]
      exact .class2 false

theorem Session.Classified.linkId {se' : Session} (h : Session.Classified c se se') : se'.linkId = se.linkId := by
  cases h with
  | retry ok cls a hcount _ hprepare => cases hcount <;> cases hprepare <;> rfl
  | raised ok cls tag d hcount => cases hcount <;> rfl
  | success payload => rfl

end

/-! ### The operations of the engine are moves -/

namespace SameSessions
variable {s t : State} (h : SameSessions s t)
include h

theorem leaveClassifying {se : Session} (hopen : s.sess.isOpen = true) (hst : s.sess.st = .classifying)
    (hclass : Session.Classified s.cfg s.sess se) : Moves s (t.leaveClassifying se) := by
  by_cases hfatal : se.st = .fatal
  · rw [State.leaveClassifying_raised hfatal]
    refine .of_setSess h.cfg h.cur h.sessions (.raises hopen hst hclass hfatal) ?_
    change Assoc.erase se.linkId t.locks = Assoc.erase s.sess.linkId s.locks
    rw [hclass.linkId, h.locks]
  · rw [State.leaveClassifying_goesOn hfatal]
    exact h.setSess (.goesOn hopen hst hclass hfatal)

theorem flushRecover (hopen : s.sess.isOpen = true) (hkind : s.sess.kind = .stream)
    (hfs : s.sess.fs = .ck0 ∨ s.sess.fs = .ck1 ∨ s.sess.fs = .body) : Moves s t.flushRecover := by
  refine ((h.setRx _ _).setTx _ _).setSess ?_
  rw [h.sess]
  exact .acquirer (.flushes hopen hkind hfs)

theorem takeByte (hopen : s.sess.isOpen = true) (hkind : s.sess.kind = .stream) (b : Byte) :
    Moves s (t.takeByte b) := by
  unfold State.takeByte
  rw [h.sess]
  dsimp only
  split
  · exact h.moves
  · exact h.setSess (.acquirer (.firstByte b hopen hkind ‹_›))
  · exact h.setSess (.acquirer (.secondByte b hopen hkind ‹_›))
  · rename_i hfs
    split_ifs
    · exact h.setSess (.acquirer (.frames hopen hkind hfs))
    · exact h.flushRecover hopen hkind (.inr (.inr hfs))
    · exact h.setSess (.acquirer (.bodyByte b hopen hkind hfs))
  · exact h.moves

end SameSessions

namespace Moves
variable {s : State}

theorem onRxByte (hopen : s.sess.isOpen = true) (hkind : s.sess.kind = .stream) : Moves s s.onRxByte := by
  unfold State.onRxByte
  dsimp only
  split
  · exact (SameSessions.refl s).moves
  · split
    · exact (SameSessions.refl s).moves
    · exact ((SameSessions.refl s).setRx _ _).takeByte hopen hkind _

/-- A timeout after the terminator was seen ends the frame as the terminator does. -/
theorem onRxTimeout (hopen : s.sess.isOpen = true) (hkind : s.sess.kind = .stream) : Moves s s.onRxTimeout := by
  have hsame := SameSessions.refl s
  unfold State.onRxTimeout
  split
  · exact hsame.moves
  · exact hsame.flushRecover hopen hkind (.inl ‹_›)
  · exact hsame.flushRecover hopen hkind (.inr (.inl ‹_›))
  · rename_i hfs
    unfold State.endBody
    split
    · rename_i hterm
      have hmove := Session.AcquirerMove.frames (c := s.cfg) hopen hkind hfs
      rw [← hterm] at hmove
      exact hsame.setSess (.acquirer hmove)
    · exact hsame.flushRecover hopen hkind (.inr (.inr hfs))
  · exact hsame.moves

theorem onEvent (hopen : s.sess.isOpen = true) (hkind : s.sess.kind = .stream) (e : StreamEvent) :
    Moves s (s.onEvent e) := by
  cases e with
  | rxByte => exact onRxByte hopen hkind
  | rxTimeout => exact onRxTimeout hopen hkind
  | settleDone =>
    change Moves s s.onSettleDone
    unfold State.onSettleDone
    dsimp only
    split
    · exact ((SameSessions.refl s).setRx _ _).setSess (.acquirer (.settles hopen hkind ‹_›))
    · exact (SameSessions.refl s).moves

theorem sendStream (hopen : s.sess.isOpen = true) (hkind : s.sess.kind = .stream) (hst : s.sess.st = .sending) :
    Moves s s.sendStream :=
  ((SameSessions.refl s).setTx _ _).setSess (.acquirer (.sends hopen hkind hst))

theorem writeRequest (hopen : s.sess.isOpen = true) (hkind : s.sess.kind = .bus) (hst : s.sess.st = .sending)
    (hbx : s.sess.bx = .write) : Moves s s.writeRequest :=
  ((SameSessions.refl s).logBus _ _).setSess (.acquirer (.writes hopen hkind hst hbx))

theorem readHeader (h : s.sess.atHeader = true) (answer : Bytes) : Moves s (s.readHeader answer) := by
  obtain ⟨hopen, hkind, hbx, hst⟩ := Session.atHeader_iff.1 h
  exact ((SameSessions.refl s).logBus _ _).setSess (.acquirer (.takesHeader _ hopen hkind hst hbx))

theorem readBody (h : s.sess.atBody = true) (answer : Bytes) : Moves s (s.readBody answer) := by
  obtain ⟨hopen, hkind, hbx, hst⟩ := Session.atBody_iff.1 h
  exact ((SameSessions.refl s).logBus _ _).setSess (.acquirer (.takesBody _ hopen hkind hst hbx))

theorem startExchange (hopen : s.sess.isOpen = true) (hkind : s.sess.kind = .bus) (hst : s.sess.st = .sending)
    (hbx : s.sess.bx = .idle) : Moves s (s.setSess s.sess.startExchange) :=
  (SameSessions.refl s).setSess (.acquirer (.startsExchange hopen hkind hst hbx))

theorem sendStep (hopen : s.sess.isOpen = true) (hst : s.sess.st = .sending) : Moves s s.sendStep := by
  unfold State.sendStep
  dsimp only
  split
  · exact sendStream hopen ‹_› hst
  · split
    · exact startExchange hopen ‹_› hst ‹_›
    · exact writeRequest hopen ‹_› hst ‹_›
    · exact (SameSessions.refl s).moves
    · exact (SameSessions.refl s).moves

theorem startCall (hopen : s.sess.isOpen = true) (hst : s.sess.st = .idle) (hlock : s.lockOf s.sess.linkId = none)
    (fn : Word16) (args : List Value) : Moves s (s.startCall fn args) := by
  unfold State.startCall
  dsimp only
  split
  · exact .of_setSess rfl rfl rfl (.startsCall _ hopen hst) ⟨hlock, rfl⟩
  · exact ((SameSessions.refl s).setReply _).bumpFree.setSess (.waits none hopen hst)

theorem classifyStep (hopen : s.sess.isOpen = true) (hst : s.sess.st = .classifying) : Moves s s.classifyStep :=
  (SameSessions.refl s).checkAcquired.leaveClassifying hopen hst .classify

theorem internal (s : State) : Moves s s.internal := by
  obtain hstays | ⟨hopen, ⟨hst, fn, args, -, hlock, hcall⟩ | ⟨hst, hsend⟩ | ⟨hst, hidle, hacquired⟩ |
    ⟨hst, hclassify⟩ | ⟨hst, hretry⟩ | ⟨hst, hend⟩⟩ := s.internal_cases
  · rw [hstays]
    exact (SameSessions.refl s).moves
  · rw [hcall]
    exact startCall hopen hst hlock fn args
  · rw [hsend]
    exact sendStep hopen hst
  · rw [hacquired]
    exact (SameSessions.refl s).setSess (.acquires hopen hst hidle)
  · rw [hclassify]
    exact classifyStep hopen hst
  · rw [hretry]
    exact (SameSessions.refl s).setSess (.retries hopen hst)
  · rw [hend]
    exact .of_setSess rfl rfl rfl (.ends hopen hst) rfl

/-! ### Instructions and bytes that are no unit -/

variable {t : State}

theorem of_sendPacket {p : Bytes} (h : sendPacket p s = .next t) : Moves s t := by
  obtain ⟨hguard, -, rfl⟩ := sendPacket_next h
  obtain ⟨hopen, hkind, hst⟩ := Session.atStreamSend_iff.1 hguard
  exact sendStream hopen hkind hst

theorem of_writePacket {p : Bytes} (h : writePacket p s = .next t) : Moves s t := by
  obtain ⟨hguard, -, rfl⟩ := writePacket_next h
  obtain ⟨hopen, hkind, hbx, hst⟩ := Session.atBusWrite_iff.1 hguard
  exact writeRequest hopen hkind hst hbx

theorem of_headerArrives {answer : Bytes} (h : headerArrives answer s = .next t) : Moves s t := by
  obtain ⟨hguard, rfl⟩ := headerArrives_next h
  exact readHeader hguard answer

theorem of_bodyArrives {answer : Bytes} (h : bodyArrives answer s = .next t) : Moves s t := by
  obtain ⟨hguard, rfl⟩ := bodyArrives_next h
  exact readBody hguard answer

theorem of_peerSends {bs : Bytes} (h : peerSends bs s = .next t) : Moves s t := by
  obtain ⟨-, rfl⟩ := peerSends_next h
  exact SameSessions.moves ⟨rfl, rfl, rfl, rfl⟩

theorem of_respond {ck : Word16} {p : Bytes} {cls : Session → Session}
    (hcls : Session.Classified s.cfg s.sess (cls { s.sess with ckOk := true })) (h : respond ck p cls s = .next t) :
    Moves s t := by
  obtain ⟨hguard, -, -, rfl⟩ := respond_next h
  obtain ⟨hopen, hst⟩ := Session.atClassify_iff.1 hguard
  exact ((SameSessions.refl s).runVerify _).leaveClassifying hopen hst hcls

theorem of_readRegister {f : Session → Reply} (h : readRegister f s = .next t) : Moves s t := by
  obtain ⟨-, rfl⟩ := readRegister_next h
  exact SameSessions.moves ⟨rfl, rfl, rfl, rfl⟩

theorem of_execRqResend (h : execRqResend s = .next t) : Moves s t := by
  unfold execRqResend at h
  split at h
  · exact of_sendPacket h
  · cases h

theorem of_execEncodeRequest {address : Option Byte} {fn : Word16} {args : List Value}
    (h : execEncodeRequest address fn args s = .next t) : Moves s t := by
  unfold execEncodeRequest at h
  split at h
  · cases h
    exact SameSessions.moves ⟨rfl, rfl, rfl, rfl⟩
  · cases h
    exact SameSessions.moves ⟨rfl, rfl, rfl, rfl⟩

theorem of_execDecodeRequest {packet : Bytes} {kind : Kind} (h : execDecodeRequest packet kind s = .next t) :
    Moves s t := by
  unfold execDecodeRequest at h
  split at h
  · cases h
    exact ((SameSessions.refl s).runVerify packet).moves.setReply _
  · cases h
    exact ((SameSessions.refl s).runVerify packet).moves.setReply _

theorem of_execBusExchange {r : Bytes} (h : execBusExchange r s = .next t) : Moves s t := by
  obtain ⟨hbus, ⟨hbx, hst, rfl⟩ | ⟨hbx, hst, rfl⟩ | ⟨hbx, hst, rfl⟩ | ⟨hbx, hst, rfl⟩⟩ := execBusExchange_next h
  all_goals obtain ⟨hopen, hkind⟩ := Session.onBus_iff.1 hbus
  · exact startExchange hopen hkind hst hbx
  · exact writeRequest hopen hkind hst hbx
  · exact readHeader (Session.atHeader_iff.2 ⟨hopen, hkind, hbx, hst⟩) r
  · exact readBody (Session.atBody_iff.2 ⟨hopen, hkind, hbx, hst⟩) r

theorem of_execOpenSession {kind : Kind} {addr : Byte} {link : LinkId}
    (h : execOpenSession kind addr link s = .next t) : Moves s t := by
  obtain ⟨hclosed, ⟨why, rfl⟩ | ⟨haddr, hnone, rfl⟩ | ⟨haddr, e, -, -, rfl⟩⟩ := execOpenSession_next h
  · exact SameSessions.moves ⟨rfl, rfl, rfl, rfl⟩
  · refine .setReply (.of_setSess ?_ ?_ ?_ (.enters kind addr link hclosed haddr) ⟨hnone, ?_⟩) _ <;> rfl
  · exact (((SameSessions.refl s).setReg _ _).setSess (.joins kind addr link hclosed haddr)).setReply _

theorem of_execCloseSession (h : execCloseSession s = .next t) : Moves s t := by
  obtain ⟨hrefusal, rfl⟩ := execCloseSession_next h
  obtain ⟨hopen, hst, -⟩ := Session.refusal_none.1 hrefusal
  exact (((SameSessions.refl s).leaveLink _).setSess (.closes hopen hst)).setReply _

theorem of_execCall {fn : Word16} {args : List Value} (h : execCall fn args s = .next t) : Moves s t := by
  obtain ⟨hrefusal, ⟨hlock, rfl⟩ | ⟨-, rfl⟩⟩ := execCall_next h
  all_goals obtain ⟨hopen, hst, -⟩ := Session.refusal_none.1 hrefusal
  · exact startCall hopen hst hlock fn args
  · exact (SameSessions.refl s).setSess (.waits (some (fn, args)) hopen hst)

theorem of_execIllegal {ch : Channel} {bs : Bytes} (h : execIllegal ch bs s = .next t) : Moves s t := by
  obtain rfl | ⟨hguard, rfl⟩ | ⟨hguard, rfl⟩ | ⟨-, rfl⟩ | ⟨hguard, rfl⟩ | ⟨hguard, rfl⟩ | ⟨hguard, rfl⟩ :=
    execIllegal_next h
  · exact ((SameSessions.refl s).runVerify bs).moves.setReply _
  · obtain ⟨hopen, hkind, hst⟩ := Session.atStreamSend_iff.1 hguard
    exact sendStream hopen hkind hst
  · obtain ⟨hopen, hkind, hbx, hst⟩ := Session.atBusWrite_iff.1 hguard
    exact writeRequest hopen hkind hst hbx
  · exact SameSessions.moves ⟨rfl, rfl, rfl, rfl⟩
  · exact readHeader hguard bs
  · exact readBody hguard bs
  · obtain ⟨hopen, hst⟩ := Session.atClassify_iff.1 hguard
    exact classifyStep hopen hst

/-- Every instruction but `RESET`. -/
theorem of_exec {i : Instr} (h : exec i s = .next t) : Moves s t ∨ i = .reset := by
  cases i with
  | reset => exact .inr rfl
  | openSession => exact .inl (of_execOpenSession h)
  | closeSession => exact .inl (of_execCloseSession h)
  | call => exact .inl (of_execCall h)
  | pkt | verify | decodeResponse =>
    cases h
    exact .inl (((SameSessions.refl s).runVerify _).moves.setReply _)
  | crc16Init | crc16Step | crc16 | mkpacket | fmtArg | fmtHex | fmtHex2 | frameS | renderForLog =>
    cases h
    exact .inl (SameSessions.moves ⟨rfl, rfl, rfl, rfl⟩)
  | encodeRequest => exact .inl (of_execEncodeRequest h)
  | decodeRequest => exact .inl (of_execDecodeRequest h)
  | wireS d =>
    cases d with
    | toPeer => exact .inl (of_sendPacket h)
    | toEngine => exact .inl (of_peerSends h)
  | reqS => exact .inl (of_sendPacket h)
  | rqResend => exact .inl (of_execRqResend h)
  | wireBReq | reqB => exact .inl (of_writePacket h)
  | busHdr | busHdrNak => exact .inl (of_headerArrives h)
  | wireBBody => exact .inl (of_bodyArrives h)
  | respS => exact .inl (of_respond (.success _) h)
  | respF => exact .inl (of_respond (.raised true _ _ _ .none) h)
  | respE => exact .inl (of_respond (.class3 true) h)
  | respReserved => exact .inl (of_respond (.raised true _ _ _ .none) h)
  | acquireStream e =>
    obtain ⟨hstream, rfl⟩ | ⟨-, rfl⟩ := execAcquireStream_next h
    · obtain ⟨hopen, hkind⟩ := Session.onStream_iff.1 hstream
      exact .inl (onEvent hopen hkind e)
    · exact .inl (SameSessions.refl _).moves
  | flushRecover =>
    obtain ⟨hstream, hfs, rfl⟩ := execFlushRecover_next h
    obtain ⟨hopen, hkind⟩ := Session.onStream_iff.1 hstream
    exact .inl ((SameSessions.refl s).flushRecover hopen hkind hfs)
  | busExchange => exact .inl (of_execBusExchange h)
  | hdrCheck =>
    obtain ⟨hguard, rfl⟩ := execHdrCheck_next h
    obtain ⟨hopen, hkind, hbx, hst⟩ := Session.atHeader_iff.1 hguard
    exact .inl (((SameSessions.refl s).setSess (.acquirer (.checksHeader hopen hkind hst hbx))).setReply _)
  | classify =>
    obtain ⟨hguard, rfl⟩ := execClassify_next h
    obtain ⟨hopen, hst⟩ := Session.atClassify_iff.1 hguard
    exact .inl ((classifyStep hopen hst).setReply _)
  | parseS =>
    obtain ⟨-, rfl⟩ | ⟨-, rfl⟩ := execParseS_next h <;> exact .inl (SameSessions.moves ⟨rfl, rfl, rfl, rfl⟩)
  | parseF =>
    obtain ⟨-, rfl⟩ | ⟨-, rfl⟩ := execParseF_next h <;> exact .inl (SameSessions.moves ⟨rfl, rfl, rfl, rfl⟩)
  | rdCnt w =>
    rw [exec_rdCnt] at h
    exact .inl (of_readRegister h)
  | rdTrace =>
    rw [exec_rdTrace] at h
    exact .inl (of_readRegister h)
  | rdDiag =>
    rw [exec_rdDiag] at h
    exact .inl (of_readRegister h)

end Moves

/-! ### The step -/

/-- A step turns to a session, which moves, or is `RESET`. -/
theorem step_moves {s t : State} (h : step s = .next t) :
    ∃ sid rest, Moves (s.select sid rest) t ∨ (s.resets ∧ execReset (s.select sid rest) = .next t) := by
  obtain ⟨i, u, hf, hexec⟩ | ⟨ch, bs, u, hf, hexec⟩ | hf | ⟨u, hf, rfl⟩ := step_next h
  · obtain ⟨sid, rest, rfl⟩ := fetch_run hf
    obtain hmoves | rfl := Moves.of_exec hexec
    · exact ⟨sid, rest, .inl hmoves⟩
    · exact ⟨sid, rest, .inr ⟨⟨_, hf⟩, hexec⟩⟩
  · obtain ⟨sid, rest, rfl⟩ := fetch_illegal hf
    exact ⟨sid, rest, .inl (Moves.of_execIllegal hexec)⟩
  · obtain ⟨l, bs, rest, rfl⟩ | ⟨l, n, rest, rfl⟩ := fetch_environment hf
    · exact ⟨s.cur, rest, .inl (SameSessions.moves ⟨rfl, rfl, rfl, rfl⟩)⟩
    · exact ⟨s.cur, rest, .inl (SameSessions.moves ⟨rfl, rfl, rfl, rfl⟩)⟩
  · obtain rfl | ⟨sid, rest, rfl⟩ := fetch_engine hf
    · exact ⟨u.cur, u.agenda, .inl (Moves.internal u)⟩
    · exact ⟨sid, rest, .inl (Moves.internal _)⟩

end Sys2Proof.Machine
end

section
/-!
PROOFS. What the step relation says of every session at every step: whom a step touches (10_state.md R37,
60_exceptions.md R355), which registers stay while a session is open or in a call (R36, R22), and which transitions
`st`, `fs` and `bx` take (R27 to R29).
-/

namespace Sys2Proof.Machine

/-! ### Every session moves or stays -/

section
variable {s t : State}

theorem Moves.session (h : Moves s t) (sid : SessId) :
    ∃ use, Session.Move s.cfg (s.session sid) use (t.session sid) := by
  obtain rfl | hother := eq_or_ne sid s.cur
  · obtain ⟨use, hmove, -⟩ := h.move
    rw [State.sess, State.sess, h.cur] at hmove
    exact ⟨use, hmove⟩
  · exact ⟨.keeps, h.others sid hother ▸ .stays⟩

theorem execReset_session (h : execReset s = .next t) (sid : SessId) : t.session sid = Session.reset := by
  cases h
  rfl

theorem execReset_cfg (h : execReset s = .next t) : t.cfg = s.cfg := by
  cases h
  rfl

theorem step_cfg (h : step s = .next t) : t.cfg = s.cfg := by
  obtain ⟨sid, rest, hmoves | ⟨-, hreset⟩⟩ := step_moves h
  · exact hmoves.cfg
  · rw [execReset_cfg hreset]
    rfl

/-- At a step every session moves, or stays, or all are reset. -/
theorem step_session (h : step s = .next t) (sid : SessId) :
    (∃ use, Session.Move s.cfg (s.session sid) use (t.session sid)) ∨ (s.resets ∧ t.session sid = Session.reset) := by
  obtain ⟨sid', rest, hmoves | ⟨hresets, hreset⟩⟩ := step_moves h
  · exact .inl (hmoves.session sid)
  · exact .inr ⟨hresets, execReset_session hreset sid⟩

end

/-! ### Registers that stay -/

section
variable {c : Config} {se se' : Session} {use : LockUse}

/-- What the classifier does not write. -/
structure Session.SameFrame (se se' : Session) : Prop where
  connection : se'.connection = se.connection
  txPkt : se'.txPkt = se.txPkt
  rxBuf : se'.rxBuf = se.rxBuf
  acq : se'.acq = se.acq
  fs : se'.fs = se.fs
  bx : se'.bx = se.bx
  waiting : se'.waiting = se.waiting

theorem Session.Classified.sameFrame (h : Session.Classified c se se') : Session.SameFrame se se' := by
  cases h with
  | retry ok cls a hcount _ hprepare => cases hcount <;> cases hprepare <;> (constructor <;> rfl)
  | raised ok cls tag d hcount => cases hcount <;> (constructor <;> rfl)
  | success payload => constructor <;> rfl

/-- What the acquirer does not write. -/
structure Session.SameCall (se se' : Session) : Prop where
  connection : se'.connection = se.connection
  txPkt : se'.txPkt = se.txPkt
  txSel : se'.txSel = se.txSel
  readCrcErrors : se'.readCrcErrors = se.readCrcErrors
  writeCrcErrors : se'.writeCrcErrors = se.writeCrcErrors
  attempts : se'.attempts = se.attempts
  nNoframe : se'.nNoframe = se.nNoframe
  nCorrupt : se'.nCorrupt = se.nCorrupt
  nNak : se'.nNak = se.nNak
  nHdr : se'.nHdr = se.nHdr
  trace : se'.trace = se.trace
  result : se'.result = se.result
  waiting : se'.waiting = se.waiting

theorem Session.sameCall_startExchange (se : Session) : Session.SameCall se se.startExchange := by
  unfold Session.startExchange
  split <;> (constructor <;> rfl)

theorem Session.sameCall_checkHeader (c : Config) (se : Session) : Session.SameCall se (se.checkHeader c) := by
  unfold Session.checkHeader
  dsimp only
  split_ifs <;> (constructor <;> rfl)

theorem Session.sameCall_takeHeader (c : Config) (se : Session) (h : Bytes) :
    Session.SameCall se (se.takeHeader c h) := by
  unfold Session.takeHeader
  split
  · exact { Session.sameCall_checkHeader c _ with }
  · constructor <;> rfl

theorem Session.sameCall_takeBody (se : Session) (b : Bytes) : Session.SameCall se (se.takeBody b) := by
  unfold Session.takeBody
  split <;> (constructor <;> rfl)

theorem Session.AcquirerMove.sameCall (h : Session.AcquirerMove c se se') : Session.SameCall se se' := by
  cases h with
  | startsExchange => exact se.sameCall_startExchange
  | takesHeader h => exact se.sameCall_takeHeader c h
  | checksHeader => exact se.sameCall_checkHeader c
  | takesBody b => exact se.sameCall_takeBody b
  | _ => constructor <;> rfl

theorem Session.AcquirerMove.isOpen (h : Session.AcquirerMove c se se') : se.isOpen = true := by
  cases h <;> assumption

/-- Only `OPEN` and `CLOSE` write the connection. -/
theorem Session.Move.connection (h : Session.Move c se use se') :
    se'.connection = se.connection ∨ se.isOpen = false ∨ se'.isOpen = false := by
  cases h with
  | enters _ _ _ hclosed | joins _ _ _ hclosed => exact .inr (.inl hclosed)
  | closes => exact .inr (.inr rfl)
  | goesOn _ _ hclass | raises _ _ hclass => exact .inl hclass.sameFrame.connection
  | acquirer hacquirer => exact .inl hacquirer.sameCall.connection
  | _ => exact .inl rfl

/-- Only `OPEN`, `CLOSE` and the start of a call write the request. -/
theorem Session.Move.txPkt (h : Session.Move c se use se') :
    se'.txPkt = se.txPkt ∨ se.st = .idle ∨ se'.st = .idle := by
  cases h with
  | enters | joins | closes => exact .inr (.inr rfl)
  | startsCall _ _ hst => exact .inr (.inl hst)
  | goesOn _ _ hclass | raises _ _ hclass => exact .inl hclass.sameFrame.txPkt
  | acquirer hacquirer => exact .inl hacquirer.sameCall.txPkt
  | _ => exact .inl rfl

end

end Sys2Proof.Machine

namespace Sys2Proof
open Machine

/-- Settles O57: a step that is not `RESET` moves the session it turns to, and no other. -/
theorem stepLeavesOtherSessionsAlone : Obligations.StepLeavesOtherSessionsAlone := by
  unfold Obligations.StepLeavesOtherSessionsAlone
  intro s t hstep
  refine ⟨step_cfg hstep, fun hreset sid hother => ?_⟩
  obtain ⟨cur, rest, hmoves | ⟨hresets, -⟩⟩ := step_moves hstep
  · exact hmoves.others sid (hmoves.cur ▸ hother)
  · exact absurd hresets hreset

/-- Settles O58: no move of an open session writes the connection, none of a call the request. -/
theorem sessionAndRequestRegistersAreConstant : Obligations.SessionAndRequestRegistersAreConstant := by
  unfold Obligations.SessionAndRequestRegistersAreConstant
  intro s t hstep sid
  obtain ⟨use, hmove⟩ | ⟨-, hreset⟩ := step_session hstep sid
  · refine ⟨fun hopen hopen' => ?_, fun hst hst' => ?_⟩
    · obtain hsame | hclosed | hclosed := hmove.connection
      · obtain ⟨-, hkind, haddr, hlink⟩ := Connection.mk.inj hsame
        exact ⟨hkind, haddr, hlink⟩
      · exact absurd hclosed (ne_false_of_eq_true hopen)
      · exact absurd hclosed (ne_false_of_eq_true hopen')
    · exact (hmove.txPkt.resolve_right (not_or.2 ⟨hst, hst'⟩))
  · rw [hreset]
    exact ⟨fun _ hopen => absurd hopen Bool.false_ne_true, fun _ hst => absurd rfl hst⟩

end Sys2Proof
end

section
/-!
PROOFS. The invariants of a session (10_state.md sections 2 to 5) in four groups, the connection, the frame acquirer,
the counts of the call and its result, and each group kept by every move.
-/

namespace Sys2Proof.Machine

/-! ### The groups -/

/-- The clauses about the connection and the host. -/
structure Session.HostInv (se : Session) : Prop where
  closed_gone : se.isOpen = false → se = se.closed
  addr_range : se.isOpen = true → se.addr.toNat ≤ addrMax
  waiting_idle : se.waiting ≠ none → se.isOpen = true ∧ se.st = .idle

/-- The clauses about the frame acquirer of a stream session. -/
structure Session.StreamInv (se : Session) : Prop where
  bx : se.bx = .idle
  skipWrite : se.skipWrite = false
  quiet : se.st ≠ .awaiting → se.fs = .idle
  settle : se.fs = .settle → se.rxBuf = []
  acq : (se.st = .awaiting ∧ se.fs = .idle) ∨ se.st = .classifying → se.acq ≠ .hdrBad ∧ se.acq ≠ .hdrNak

/-- The clauses about the frame acquirer of a bus session. -/
structure Session.BusInv (c : Config) (se : Session) : Prop where
  fs : se.fs = .idle
  original : se.txSel = .original
  sending : se.st = .sending → se.bx = .idle ∨ se.bx = .write
  awaiting : se.st = .awaiting → se.bx ≠ .write
  quiet : se.st ≠ .sending → se.st ≠ .awaiting → se.bx = .idle
  skipWrite : se.skipWrite = true →
    c.busHdrPolicy = .readOnly ∧ (se.st = .retry ∨ (se.st = .sending ∧ se.bx = .idle))

/-- The clauses about the frame acquirer. -/
structure Session.AcquirerInv (c : Config) (se : Session) : Prop where
  stream : se.kind = .stream → se.StreamInv
  bus : se.kind = .bus → se.BusInv c

/-- The attempts a call in this state may still make for certain (43_retry_engine.md R232). -/
def RetryState.room : RetryState → Nat
  | .sending | .awaiting | .retry => 1
  | .idle | .classifying | .success | .fatal => 0

/-- The attempts finished but in no class yet. -/
def RetryState.unclassified : RetryState → Nat
  | .classifying => 1
  | .idle | .sending | .awaiting | .success | .retry | .fatal => 0

/-- The call's attempts in one of the three classes of failures. -/
def Session.failures (se : Session) : Nat :=
  se.nNoframe.toNat + se.nCorrupt.toNat + se.nNak.toNat

/-- The clauses about the counts. -/
structure Session.TallyInv (c : Config) (se : Session) : Prop where
  counters_fit : se.readCrcErrors ≤ 2 ^ c.cntW - 1 ∧ se.writeCrcErrors ≤ 2 ^ c.cntW - 1
  attempts : se.attempts.toNat + se.st.room ≤ c.maxRetries
  failures : se.failures + se.st.unclassified ≤ se.attempts.toNat
  header_sum : se.nHdr.toNat ≤ se.nCorrupt.toNat + se.nNak.toNat
  trace : se.trace.length + se.st.unclassified = se.attempts.toNat

/-- The clauses about the result. -/
structure Session.ResultInv (se : Session) : Prop where
  result_pending : se.st = .sending ∨ se.st = .awaiting ∨ se.st = .classifying ∨ se.st = .retry →
    se.result = .pending
  result_value : se.st = .success → ∃ v, se.result = .value v
  result_error : ∀ tag a d, se.result = .err tag a d → a = se.addr
  fatal_passed : se.st ≠ .fatal

section
variable {c : Config} {se se' se₁ se₂ : Session} {use : LockUse}

/-! ### The groups and the invariant -/

theorem Session.Inv.hostInv (h : se.Inv c) : se.HostInv :=
  ⟨h.closed_gone, h.addr_range, h.waiting_idle⟩

theorem Session.Inv.streamInv (h : se.Inv c) (hkind : se.kind = .stream) : se.StreamInv where
  bx := h.stream_bx hkind
  skipWrite := by
    by_contra hskip
    obtain ⟨hbus, -⟩ := h.skip_write (Bool.eq_true_of_not_eq_false hskip)
    cases hkind.symm.trans hbus
  quiet hst := by
    by_cases hsending : se.st = .sending
    · exact (h.sending_quiet hsending).1
    · exact (h.acquirer_quiet hsending hst).1
  settle := h.settle_empty
  acq := h.stream_acq hkind

theorem Session.Inv.busInv (h : se.Inv c) (hkind : se.kind = .bus) : se.BusInv c where
  fs := h.bus_fs hkind
  original := h.bus_original hkind
  sending hst := (h.sending_quiet hst).2
  awaiting := h.awaiting_written
  quiet hsending hawaiting := (h.acquirer_quiet hsending hawaiting).2
  skipWrite hskip := (h.skip_write hskip).2

theorem Session.Inv.acquirerInv (h : se.Inv c) : se.AcquirerInv c :=
  ⟨h.streamInv, h.busInv⟩

theorem Session.Inv.tallyInv (h : se.Inv c) : se.TallyInv c where
  counters_fit := h.counters_fit
  attempts := by
    have hbound := h.attempts_bound
    have hbudget := h.budget
    cases hst : se.st <;> simp_all [RetryState.room]
  failures := by
    have hsum := h.class_sum
    have hopen := h.class_sum_open
    cases hst : se.st <;> simp_all [RetryState.unclassified, Session.failures]
  header_sum := h.header_sum
  trace := by
    have hlength := h.trace_length
    have hopen := h.trace_length_open
    cases hst : se.st <;> simp_all [RetryState.unclassified]

theorem Session.Inv.resultInv (h : se.Inv c) : se.ResultInv :=
  ⟨h.result_pending, h.result_value, h.result_error, h.fatal_passed⟩

theorem Session.AcquirerInv.fs_idle (h : se.AcquirerInv c) (hst : se.st ≠ .awaiting) : se.fs = .idle := by
  cases hkind : se.kind with
  | stream => exact (h.stream hkind).quiet hst
  | bus => exact (h.bus hkind).fs

theorem Session.Inv.of_groups (hhost : se.HostInv) (hacquirer : se.AcquirerInv c) (htally : se.TallyInv c)
    (hresult : se.ResultInv) : se.Inv c := by
  obtain ⟨hclosed, haddr, hwaiting⟩ := hhost
  obtain ⟨hcounters, hattempts, hfailures, hheader, htrace⟩ := htally
  obtain ⟨hpending, hvalue, herror, hfatal⟩ := hresult
  obtain ⟨hstream, hbus⟩ := hacquirer
  constructor
  case closed_gone => exact hclosed
  case addr_range => exact haddr
  case waiting_idle => exact hwaiting
  case counters_fit => exact hcounters
  case header_sum => exact hheader
  case result_pending => exact hpending
  case result_value => exact hvalue
  case result_error => exact herror
  case fatal_passed => exact hfatal
  case attempts_bound => exact Nat.le_of_add_right_le hattempts
  case class_sum => exact Nat.le_of_add_right_le hfailures
  case budget =>
    intro hst
    have hroom : se.st.room = 1 := by obtain h | h | h := hst <;> rw [h] <;> rfl
    omega
  case class_sum_open =>
    intro hst
    rw [hst] at hfailures
    exact hfailures
  case trace_length =>
    intro hst
    cases h : se.st <;> simp_all [RetryState.unclassified]
  case trace_length_open =>
    intro hst
    rw [hst] at htrace
    exact htrace
  all_goals cases hkind : se.kind with
  | stream =>
    obtain ⟨hbx, hskip, hquiet, hsettle, hacq⟩ := hstream hkind
    simp_all
  | bus =>
    obtain ⟨hidle, horiginal, hsending, hawaiting, hquiet, hskip⟩ := hbus hkind
    simp_all

/-! ### The shapes of the bus steps

A read of the bus writes the flags, `acq` and `bx`, and nothing of the call. -/

theorem Session.checkHeader_shape (c : Config) (se : Session) : ∃ ok nak acq bx, (bx = .idle ∨ bx = .body) ∧
    se.checkHeader c = { se with hdrCkOk := ok, hdrNak := nak, acq := acq, bx := bx } := by
  unfold Session.checkHeader
  dsimp only
  split_ifs
  · exact ⟨_, _, _, _, .inl rfl, rfl⟩
  · exact ⟨_, _, _, _, .inl rfl, rfl⟩
  · exact ⟨_, _, _, _, .inr rfl, rfl⟩

theorem Session.takeHeader_shape (c : Config) (se : Session) (h : Bytes) : ∃ hdr ok nak acq bx,
    (bx = .idle ∨ bx = .body) ∧
    se.takeHeader c h = { se with hdr := hdr, hdrCkOk := ok, hdrNak := nak, acq := acq, bx := bx } := by
  unfold Session.takeHeader
  split
  · exact ⟨_, Session.checkHeader_shape c _⟩
  · exact ⟨_, _, _, _, _, .inl rfl, rfl⟩

theorem Session.takeBody_shape (se : Session) (b : Bytes) : ∃ rx acq,
    se.takeBody b = { se with rxBuf := rx, acq := acq, bx := .idle } := by
  unfold Session.takeBody
  split
  · exact ⟨_, _, rfl⟩
  · exact ⟨_, _, rfl⟩

/-! ### The acquirer's moves -/

theorem Session.AcquirerMove.streamInv (h : Session.AcquirerMove c se se') (hkind : se.kind = .stream)
    (hinv : se.StreamInv) : se'.StreamInv := by
  obtain ⟨hbx, hskip, hquiet, hsettle, hacq⟩ := hinv
  cases h with
  | sends | firstByte | secondByte | bodyByte | frames | flushes | settles =>
    constructor <;> grind -ring -linarith -lia [Session.startAcquire]
  | startsExchange _ hbus | writes _ hbus | takesHeader _ _ hbus | checksHeader _ hbus | takesBody _ _ hbus =>
    cases hkind.symm.trans hbus

theorem Session.AcquirerMove.busInv (h : Session.AcquirerMove c se se') (hkind : se.kind = .bus)
    (hinv : se.BusInv c) : se'.BusInv c := by
  obtain ⟨hfs, horiginal, hsending, hawaiting, hquiet, hskip⟩ := hinv
  cases h with
  | startsExchange _ _ hst hbx =>
    cases hskipWrite : se.skipWrite with
    | true =>
      rw [Session.startExchange_skipWrite hskipWrite]
      exact ⟨hfs, horiginal, nofun, nofun, fun _ h => absurd rfl h, nofun⟩
    | false =>
      rw [Session.startExchange_write hskipWrite]
      constructor <;> simp_all
  | writes => constructor <;> simp_all
  | takesHeader answer _ _ hst hbx =>
    obtain ⟨_, _, _, _, _, hnext, heq⟩ := se.takeHeader_shape c answer
    rw [heq]
    constructor <;> grind -ring -linarith -lia
  | checksHeader _ _ hst hbx =>
    obtain ⟨_, _, _, _, hnext, heq⟩ := se.checkHeader_shape c
    rw [heq]
    constructor <;> grind -ring -linarith -lia
  | takesBody answer _ _ hst hbx =>
    obtain ⟨_, _, heq⟩ := se.takeBody_shape answer
    rw [heq]
    constructor <;> simp_all
  | sends _ hstream | firstByte _ _ hstream | secondByte _ _ hstream | bodyByte _ _ hstream | frames _ hstream
  | flushes _ hstream | settles _ hstream =>
    cases hkind.symm.trans hstream

theorem Session.AcquirerMove.kind (h : Session.AcquirerMove c se se') : se'.kind = se.kind :=
  (Connection.mk.inj h.sameCall.connection).2.1

theorem Session.AcquirerMove.acquirerInv (h : Session.AcquirerMove c se se') (hinv : se.AcquirerInv c) :
    se'.AcquirerInv c where
  stream hkind := h.streamInv (h.kind ▸ hkind) (hinv.stream (h.kind ▸ hkind))
  bus hkind := h.busInv (h.kind ▸ hkind) (hinv.bus (h.kind ▸ hkind))

theorem Session.AcquirerMove.st_next (h : Session.AcquirerMove c se se') :
    se'.st = se.st ∨ (se.st = .sending ∧ se'.st = .awaiting) := by
  cases h with
  | sends _ _ hst | writes _ _ hst => exact .inr ⟨hst, rfl⟩
  | firstByte | secondByte | bodyByte | frames | settles | flushes => exact .inl rfl
  | startsExchange _ _ hst _ =>
    unfold Session.startExchange
    split
    · exact .inr ⟨hst, rfl⟩
    · exact .inl rfl
  | takesHeader answer =>
    obtain ⟨_, _, _, _, _, -, heq⟩ := se.takeHeader_shape c answer
    exact .inl (by rw [heq])
  | checksHeader =>
    obtain ⟨_, _, _, _, -, heq⟩ := se.checkHeader_shape c
    exact .inl (by rw [heq])
  | takesBody answer =>
    obtain ⟨_, _, heq⟩ := se.takeBody_shape answer
    exact .inl (by rw [heq])

/-- The acquirer moves in an attempt. -/
theorem Session.AcquirerMove.inAttempt (h : Session.AcquirerMove c se se') (hinv : se.AcquirerInv c) :
    se.st = .sending ∨ se.st = .awaiting := by
  have hreading : se.fs ≠ .idle → se.st = .awaiting := fun hfs => by
    by_contra hst
    exact hfs (hinv.fs_idle hst)
  cases h with
  | firstByte _ _ _ hfs | secondByte _ _ _ hfs | bodyByte _ _ _ hfs | frames _ _ hfs | settles _ _ hfs =>
    exact .inr (hreading (by rw [hfs]; decide))
  | flushes _ _ hfs => exact .inr (hreading (by obtain h | h | h := hfs <;> rw [h] <;> decide))
  | sends _ _ hst | startsExchange _ _ hst | writes _ _ hst => exact .inl hst
  | takesHeader _ _ _ hst | checksHeader _ _ hst | takesBody _ _ _ hst => exact .inr hst

theorem Session.AcquirerMove.inAttempt_after (h : Session.AcquirerMove c se se') (hinv : se.AcquirerInv c) :
    se'.st = .sending ∨ se'.st = .awaiting := by
  obtain hsame | ⟨-, hawaiting⟩ := h.st_next
  · exact hsame ▸ h.inAttempt hinv
  · exact .inr hawaiting

/-! ### The connection and the host -/

theorem Session.HostInv.waiting_none (h : se.HostInv) (hst : se.st ≠ .idle) : se.waiting = none := by
  by_contra hwaiting
  exact hst (h.waiting_idle hwaiting).2

theorem Session.HostInv.of_open (h : se.HostInv) (hopen : se.isOpen = true) (hsame : se'.connection = se.connection)
    (hwaiting : se'.waiting ≠ none → se'.st = .idle) : se'.HostInv := by
  obtain ⟨hopen', -, haddr, -⟩ := Connection.mk.inj hsame
  rw [hopen] at hopen'
  exact ⟨fun hclosed => absurd hclosed (ne_false_of_eq_true hopen'), fun _ => haddr ▸ h.addr_range hopen,
    fun hw => ⟨hopen', hwaiting hw⟩⟩

/-- A call in flight waits for nothing, and neither does what its moves leave. -/
theorem Session.HostInv.of_call (h : se.HostInv) (hopen : se.isOpen = true) (hst : se.st ≠ .idle)
    (hsame : se'.connection = se.connection) (hwaiting : se'.waiting = se.waiting) : se'.HostInv :=
  h.of_open hopen hsame fun hw => absurd (hwaiting.trans (h.waiting_none hst)) hw

theorem Session.Move.hostInv (h : Session.Move c se use se') (hinv : se.Inv c) : se'.HostInv := by
  have hhost := hinv.hostInv
  cases h with
  | stays => exact hhost
  | enters _ _ _ _ haddr | joins _ _ _ _ haddr => exact ⟨nofun, fun _ => haddr, fun hw => absurd rfl hw⟩
  | closes => exact ⟨fun _ => rfl, nofun, fun hw => absurd rfl hw⟩
  | waits _ hopen hst => exact hhost.of_open hopen rfl fun _ => hst
  | startsCall _ hopen => exact hhost.of_open hopen rfl fun hw => absurd rfl hw
  | acquirer hmove =>
    have hst : se.st ≠ .idle := by obtain h | h := hmove.inAttempt hinv.acquirerInv <;> rw [h] <;> decide
    exact hhost.of_call hmove.isOpen hst hmove.sameCall.connection hmove.sameCall.waiting
  | acquires hopen hst | retries hopen hst => exact hhost.of_call hopen (by rw [hst]; decide) rfl rfl
  | goesOn hopen hst hclass | raises hopen hst hclass =>
    exact hhost.of_call hopen (by rw [hst]; decide) hclass.sameFrame.connection hclass.sameFrame.waiting
  | ends hopen hst => exact hhost.of_call hopen (by obtain h | h := hst <;> rw [h] <;> decide) rfl rfl

/-! ### The acquirer's clauses at the other moves -/

theorem Session.AcquirerInv.of_idle (hst : se.st = .idle) (hfs : se.fs = .idle) (hbx : se.bx = .idle)
    (horiginal : se.kind = .bus → se.txSel = .original) (hskip : se.skipWrite = false) : se.AcquirerInv c where
  stream _ := by constructor <;> simp_all
  bus _ := by constructor <;> simp_all

theorem Session.AcquirerInv.startCall (h : se.AcquirerInv c) (hst : se.st = .idle) (pkt : Bytes) :
    (se.startCall pkt).AcquirerInv c := by
  have hfs := h.fs_idle (by rw [hst]; decide)
  have hbx : se.bx = .idle := by
    cases hkind : se.kind with
    | stream => exact (h.stream hkind).bx
    | bus => exact (h.bus hkind).quiet (by rw [hst]; decide) (by rw [hst]; decide)
  constructor <;> intro hkind <;> constructor <;> simp_all [Session.startCall]

theorem Session.AcquirerInv.acquired (h : se.AcquirerInv c) (hst : se.st = .awaiting) (hidle : se.acquirerIdle = true) :
    se.acquired.AcquirerInv c where
  stream hkind := by
    change se.kind = .stream at hkind
    obtain ⟨hbx, hskip, -, hsettle, hacq⟩ := h.stream hkind
    have hfs : se.fs = .idle := by simpa [Session.acquirerIdle, hkind] using hidle
    constructor <;> simp_all [Session.acquired]
  bus hkind := by
    change se.kind = .bus at hkind
    obtain ⟨hfs, horiginal, -, -, -, hskip⟩ := h.bus hkind
    have hbx : se.bx = .idle := by simpa [Session.acquirerIdle, hkind] using hidle
    constructor <;> simp_all [Session.acquired]

theorem Session.Classified.txSel_bus (h : Session.Classified c se se') (hkind : se.kind = .bus)
    (horiginal : se.txSel = .original) : se'.txSel = .original := by
  cases h with
  | retry ok cls a hcount _ hprepare =>
    cases hcount <;> cases hprepare <;> simp_all [Session.record]
  | raised ok cls tag d hcount => cases hcount <;> exact horiginal
  | success payload => exact horiginal

theorem Session.Classified.skipWrite (h : Session.Classified c se se') (hskip : se'.skipWrite = true) :
    se.skipWrite = true ∨
      ((se.acq = .hdrBad ∨ se.acq = .hdrNak) ∧ c.busHdrPolicy = .readOnly ∧ se'.st = .retry) := by
  cases h with
  | retry ok cls a hcount _ hprepare =>
    cases hprepare with
    | readOnly hacq hpolicy =>
      refine .inr ⟨?_, hpolicy, rfl⟩
      cases hcount <;> exact hacq
    | _ => cases hcount <;> exact .inl hskip
  | raised ok cls tag d hcount => cases hcount <;> exact .inl hskip
  | success payload => exact .inl hskip

theorem Session.Classified.st (h : Session.Classified c se se') :
    se'.st = .retry ∨ se'.st = .success ∨ se'.st = .fatal := by
  cases h with
  | retry => exact .inl rfl
  | raised => exact .inr (.inr rfl)
  | success => exact .inr (.inl rfl)

/-- The classifier leaves the acquirer at rest, and asks to skip the write at a retry on the bus only. -/
theorem Session.AcquirerInv.classified (h : se.AcquirerInv c) (hst : se.st = .classifying)
    (hclass : Session.Classified c se se') : se'.AcquirerInv c := by
  have hst' := hclass.st
  have hskip' := hclass.skipWrite
  have hsel := hclass.txSel_bus
  obtain ⟨hconnection, -, hrx, hacq, hfs, hbx, -⟩ := hclass.sameFrame
  obtain ⟨-, hkind, -, -⟩ := Connection.mk.inj hconnection
  have hquiet := h.fs_idle (by rw [hst]; decide)
  constructor <;> intro hkind'
  · obtain ⟨hb, hskip, -, -, ha⟩ := h.stream (hkind ▸ hkind')
    constructor <;> grind -ring -linarith -lia
  · obtain ⟨-, horiginal, -, -, hb, hskip⟩ := h.bus (hkind ▸ hkind')
    constructor <;> grind -ring -linarith -lia

/-- A call that ends leaves the acquirer at rest. -/
theorem Session.AcquirerInv.ended (h : se.AcquirerInv c) (hst : se.st = .success ∨ se.st = .fatal) :
    { se with st := .idle }.AcquirerInv c where
  stream hkind := by
    obtain ⟨hbx, hskip, hquiet, hsettle, -⟩ := h.stream hkind
    constructor <;> grind -ring -linarith -lia
  bus hkind := by
    obtain ⟨hfs, horiginal, -, -, hquiet, hskip⟩ := h.bus hkind
    constructor <;> grind -ring -linarith -lia

theorem Session.AcquirerInv.retried (h : se.AcquirerInv c) (hst : se.st = .retry) :
    { se with st := .sending }.AcquirerInv c where
  stream hkind := by
    obtain ⟨hbx, hskip, hquiet, hsettle, -⟩ := h.stream hkind
    constructor <;> grind -ring -linarith -lia
  bus hkind := by
    obtain ⟨hfs, horiginal, -, -, hquiet, hskip⟩ := h.bus hkind
    constructor <;> grind -ring -linarith -lia

theorem Session.Move.acquirerInv (h : Session.Move c se use se') (hinv : se.AcquirerInv c) : se'.AcquirerInv c := by
  cases h with
  | stays => exact hinv
  | enters | joins | closes => exact .of_idle rfl rfl rfl (fun _ => rfl) rfl
  | waits => exact ⟨fun hkind => { hinv.stream hkind with }, fun hkind => { hinv.bus hkind with }⟩
  | startsCall pkt _ hst => exact hinv.startCall hst pkt
  | acquirer hmove => exact hmove.acquirerInv hinv
  | acquires _ hst hidle => exact hinv.acquired hst hidle
  | goesOn _ hst hclass => exact hinv.classified hst hclass
  | raises _ hst hclass hfatal => exact (hinv.classified hst hclass).ended (.inr hfatal)
  | retries _ hst => exact hinv.retried hst
  | ends _ hst => exact hinv.ended hst

/-! ### The counts -/

theorem toNat_add_one {x : BitVec 4} (h : x.toNat < 15) : (x + 1).toNat = x.toNat + 1 := by
  bv_omega

theorem bump_le (c : Config) (n : Nat) : bump c n ≤ 2 ^ c.cntW - 1 :=
  Nat.min_le_right _ _

/-- What the classifier's count does not write. -/
theorem Session.Counted.same (h : Session.Counted c se se₁) :
    se₁.st = se.st ∧ se₁.attempts = se.attempts ∧ se₁.trace = se.trace ∧ se₁.result = se.result ∧
      se₁.addr = se.addr := by
  cases h <;> exact ⟨rfl, rfl, rfl, rfl, rfl⟩

/-- What is prepared for the next attempt is no count. -/
theorem Session.Prepared.same (h : Session.Prepared c se₁ se₂) :
    ∃ sel skip, se₂ = { se₁ with txSel := sel, skipWrite := skip } := by
  cases h <;> exact ⟨_, _, rfl⟩

/-- The classifier counts the attempt in at most one class. -/
theorem Session.Counted.failures (h : Session.Counted c se se₁) (hroom : se.failures < 15) :
    se₁.failures ≤ se.failures + 1 := by
  unfold Session.failures at hroom ⊢
  cases h with
  | none => exact Nat.le_succ _
  | noFrame | corrupt | nak | hdrBad | hdrNak =>
    dsimp only
    rw [toNat_add_one (by omega)]
    omega

theorem Session.Counted.header_sum (h : Session.Counted c se se₁) (hroom : se.failures < 15)
    (hsum : se.nHdr.toNat ≤ se.nCorrupt.toNat + se.nNak.toNat) :
    se₁.nHdr.toNat ≤ se₁.nCorrupt.toNat + se₁.nNak.toNat := by
  rw [Session.failures] at hroom
  cases h with
  | none | noFrame => exact hsum
  | corrupt | nak =>
    dsimp only
    rw [toNat_add_one (by omega)]
    omega
  | hdrBad | hdrNak =>
    dsimp only
    rw [toNat_add_one (by omega), toNat_add_one (by omega)]
    omega

theorem Session.Counted.counters_fit (h : Session.Counted c se se₁)
    (hfit : se.readCrcErrors ≤ 2 ^ c.cntW - 1 ∧ se.writeCrcErrors ≤ 2 ^ c.cntW - 1) :
    se₁.readCrcErrors ≤ 2 ^ c.cntW - 1 ∧ se₁.writeCrcErrors ≤ 2 ^ c.cntW - 1 := by
  obtain ⟨hread, hwrite⟩ := hfit
  cases h with
  | none => exact ⟨hread, hwrite⟩
  | noFrame | corrupt | hdrBad => exact ⟨bump_le c _, hwrite⟩
  | nak | hdrNak => exact ⟨hread, bump_le c _⟩

theorem Config.maxRetries_range (h : c.legal = true) : 1 ≤ c.maxRetries ∧ c.maxRetries ≤ 9 := by
  simp only [Config.legal, Bool.and_eq_true, decide_eq_true_eq] at h
  obtain ⟨⟨⟨⟨⟨⟨-, hlow⟩, hhigh⟩, -⟩, -⟩, -⟩, -⟩ := h
  exact ⟨hlow, hhigh⟩

/-- The counts as the classifier leaves them, with the record of the attempt still to come. -/
theorem Session.TallyInv.counted (h : se.TallyInv c) (hmax : c.maxRetries ≤ 9) (hst : se.st = .classifying)
    (hcount : Session.Counted c se se₁) : se₁.failures ≤ se₁.attempts.toNat ∧
      se₁.nHdr.toNat ≤ se₁.nCorrupt.toNat + se₁.nNak.toNat ∧ se₁.trace.length + 1 = se₁.attempts.toNat ∧
      se₁.attempts.toNat ≤ c.maxRetries ∧
      (se₁.readCrcErrors ≤ 2 ^ c.cntW - 1 ∧ se₁.writeCrcErrors ≤ 2 ^ c.cntW - 1) := by
  obtain ⟨hfit, hattempts, hfailures, hheader, htrace⟩ := h
  rw [hst] at hattempts hfailures htrace
  have hbound : se.attempts.toNat ≤ c.maxRetries := hattempts
  have hless : se.failures + 1 ≤ se.attempts.toNat := hfailures
  have hroom : se.failures < 15 := by omega
  obtain ⟨-, hsame, htraceSame, -⟩ := hcount.same
  rw [hsame, htraceSame]
  exact ⟨(hcount.failures hroom).trans hless, hcount.header_sum hroom hheader, htrace, hbound, hcount.counters_fit hfit⟩

theorem Session.TallyInv.classified (h : se.TallyInv c) (hmax : c.maxRetries ≤ 9) (hst : se.st = .classifying)
    (hclass : Session.Classified c se se') : se'.TallyInv c := by
  have hchecked (ok : Bool) : { se with ckOk := ok }.TallyInv c := { h with }
  cases hclass with
  | retry ok cls a hcount hbudget hprepare =>
    obtain ⟨hfailures, hheader, htrace, -, hfit⟩ := (hchecked ok).counted hmax hst hcount
    have hroom := of_decide_eq_true hbudget
    obtain ⟨sel, skip, rfl⟩ := hprepare.same
    exact ⟨hfit, hroom, hfailures, hheader, (List.length_append ..).trans htrace⟩
  | raised ok cls tag d hcount =>
    obtain ⟨hfailures, hheader, htrace, hbound, hfit⟩ := (hchecked ok).counted hmax hst hcount
    exact ⟨hfit, hbound, hfailures, hheader, (List.length_append ..).trans htrace⟩
  | success payload =>
    obtain ⟨hfailures, hheader, htrace, hbound, hfit⟩ := (hchecked true).counted hmax hst .none
    exact ⟨hfit, hbound, hfailures, hheader, (List.length_append ..).trans htrace⟩

/-- Registers that are not counts, and states with the same room and nothing more to classify. -/
theorem Session.TallyInv.of_sameCall (h : se.TallyInv c) (hsame : Session.SameCall se se')
    (hroom : se'.st.room = se.st.room) (hunclassified : se'.st.unclassified = se.st.unclassified) :
    se'.TallyInv c := by
  obtain ⟨hfit, hattempts, hfailures, hheader, htrace⟩ := h
  obtain ⟨-, -, -, hread, hwrite, hattempt, hnoframe, hcorrupt, hnak, hhdr, htr, -, -⟩ := hsame
  constructor <;> simp_all [Session.failures]

theorem Session.TallyInv.acquirerMove (h : se.TallyInv c) (hmove : Session.AcquirerMove c se se')
    (hinv : se.AcquirerInv c) : se'.TallyInv c := by
  have hinAttempt {st : RetryState} (hst : st = .sending ∨ st = .awaiting) : st.room = 1 ∧ st.unclassified = 0 := by
    obtain rfl | rfl := hst <;> exact ⟨rfl, rfl⟩
  obtain ⟨hroom, hunclassified⟩ := hinAttempt (hmove.inAttempt hinv)
  obtain ⟨hroom', hunclassified'⟩ := hinAttempt (hmove.inAttempt_after hinv)
  exact h.of_sameCall hmove.sameCall (hroom'.trans hroom.symm) (hunclassified'.trans hunclassified.symm)

/-- The attempt just finished is in no class yet. -/
theorem Session.TallyInv.acquired (h : se.TallyInv c) (hmax : c.maxRetries ≤ 9) (hst : se.st = .awaiting) :
    se.acquired.TallyInv c := by
  obtain ⟨hfit, hattempts, hfailures, hheader, htrace⟩ := h
  rw [hst] at hattempts hfailures htrace
  have hnext : se.acquired.attempts.toNat = se.attempts.toNat + 1 :=
    toNat_add_one ((Nat.le_of_succ_le hattempts).trans_lt (by omega))
  exact ⟨hfit, hnext ▸ hattempts, hnext ▸ Nat.succ_le_succ hfailures, hheader, hnext ▸ congrArg Nat.succ htrace⟩

theorem Session.TallyInv.ended (h : se.TallyInv c) (hst : se.st = .success ∨ se.st = .fatal) :
    { se with st := .idle }.TallyInv c := by
  refine h.of_sameCall (by constructor <;> rfl) ?_ ?_ <;> obtain h | h := hst <;> rw [h] <;> rfl

theorem Session.TallyInv.retried (h : se.TallyInv c) (hst : se.st = .retry) :
    { se with st := .sending }.TallyInv c := by
  refine h.of_sameCall (by constructor <;> rfl) ?_ ?_ <;> rw [hst] <;> rfl

theorem Session.Move.tallyInv (h : Session.Move c se use se') (hlegal : c.legal = true) (hinv : se.Inv c) :
    se'.TallyInv c := by
  obtain ⟨hmin, hmax⟩ := Config.maxRetries_range hlegal
  have htally := hinv.tallyInv
  cases h with
  | stays => exact htally
  | enters | joins | closes =>
    exact ⟨⟨Nat.zero_le _, Nat.zero_le _⟩, Nat.zero_le _, le_rfl, le_rfl, rfl⟩
  | waits => exact { htally with }
  | startsCall => exact ⟨htally.counters_fit, hmin, le_rfl, le_rfl, rfl⟩
  | acquirer hmove => exact htally.acquirerMove hmove hinv.acquirerInv
  | acquires _ hst => exact htally.acquired hmax hst
  | goesOn _ hst hclass => exact htally.classified hmax hst hclass
  | raises _ hst hclass hfatal => exact (htally.classified hmax hst hclass).ended (.inr hfatal)
  | retries _ hst => exact htally.retried hst
  | ends _ hst => exact htally.ended hst

/-! ### The result -/

/-- An error raised has the session's address. -/
theorem Session.Classified.result (h : Session.Classified c se se') :
    (se'.st = .retry ∧ se'.result = se.result) ∨ (se'.st = .success ∧ ∃ v, se'.result = .value v) ∨
      (se'.st = .fatal ∧ ∃ tag d, se'.result = .err tag se.addr d) := by
  cases h with
  | retry ok cls a hcount _ hprepare =>
    obtain ⟨sel, skip, rfl⟩ := hprepare.same
    obtain ⟨-, -, -, hresult, -⟩ := hcount.same
    exact .inl ⟨rfl, hresult⟩
  | raised ok cls tag d hcount =>
    obtain ⟨-, -, -, -, haddr⟩ := hcount.same
    exact .inr (.inr ⟨rfl, tag, d, congrArg (CallResult.err tag · d) haddr⟩)
  | success payload => exact .inr (.inl ⟨rfl, _, rfl⟩)

/-- A call in progress has no result. -/
theorem Session.ResultInv.of_pending (hresult : se.result = .pending) (hst : se.st ≠ .success)
    (hfatal : se.st ≠ .fatal) : se.ResultInv :=
  ⟨fun _ => hresult, fun h => absurd h hst, fun _ _ _ h => (nomatch hresult.symm.trans h), hfatal⟩

/-- A session that calls nothing may hold a result of its last call. -/
theorem Session.ResultInv.of_idle (hst : se.st = .idle)
    (herror : ∀ tag a d, se.result = .err tag a d → a = se.addr) : se.ResultInv :=
  ⟨by simp [hst], by simp [hst], herror, by simp [hst]⟩

theorem Session.Move.resultInv (h : Session.Move c se use se') (hinv : se.Inv c) : se'.ResultInv := by
  have hresult := hinv.resultInv
  cases h with
  | stays => exact hresult
  | enters | joins | closes => exact .of_pending rfl nofun nofun
  | waits => exact { hresult with }
  | startsCall => exact .of_pending rfl nofun nofun
  | acquirer hmove =>
    have hbefore := hmove.inAttempt hinv.acquirerInv
    have hafter := hmove.inAttempt_after hinv.acquirerInv
    have hpending : se.result = .pending := by
      obtain h | h := hbefore
      · exact hresult.result_pending (.inl h)
      · exact hresult.result_pending (.inr (.inl h))
    refine .of_pending (hmove.sameCall.result.trans hpending) ?_ ?_ <;> obtain h | h := hafter <;> rw [h] <;> decide
  | acquires _ hst => exact .of_pending (hresult.result_pending (.inr (.inl hst))) nofun nofun
  | goesOn _ hst hclass hfatal =>
    obtain ⟨hretry, hsame⟩ | ⟨hsuccess, v, hvalue⟩ | ⟨hfatal', -⟩ := hclass.result
    · have hpending := hsame.trans (hresult.result_pending (.inr (.inr (.inl hst))))
      exact .of_pending hpending (by rw [hretry]; decide) hfatal
    · exact ⟨by simp [hsuccess], fun _ => ⟨v, hvalue⟩, by simp [hvalue], hfatal⟩
    · exact absurd hfatal' hfatal
  | raises _ hst hclass hfatal =>
    obtain ⟨hretry, -⟩ | ⟨hsuccess, -⟩ | ⟨-, tag, d, herror⟩ := hclass.result
    · cases hretry.symm.trans hfatal
    · cases hsuccess.symm.trans hfatal
    · obtain ⟨-, -, haddr, -⟩ := Connection.mk.inj hclass.sameFrame.connection
      refine .of_idle rfl fun tag' a d' h => ?_
      cases herror.symm.trans h
      exact haddr.symm
  | retries _ hst => exact .of_pending (hresult.result_pending (.inr (.inr (.inr hst)))) nofun nofun
  | ends => exact .of_idle rfl hresult.result_error

/-! ### Every move keeps the invariant -/

theorem Session.Move.inv (h : Session.Move c se use se') (hlegal : c.legal = true) (hinv : se.Inv c) : se'.Inv c :=
  .of_groups (h.hostInv hinv) (h.acquirerInv hinv.acquirerInv) (h.tallyInv hlegal hinv) (h.resultInv hinv)

theorem Session.inv_reset (c : Config) : Session.reset.Inv c :=
  .of_groups ⟨fun _ => rfl, nofun, fun hw => absurd rfl hw⟩ (.of_idle rfl rfl rfl (fun _ => rfl) rfl)
    ⟨⟨Nat.zero_le _, Nat.zero_le _⟩, Nat.zero_le _, le_rfl, le_rfl, rfl⟩ (.of_pending rfl nofun nofun)

/-! ### Transitions -/

theorem Session.Inv.idle_of_closed (h : se.Inv c) (hclosed : se.isOpen = false) :
    se.st = .idle ∧ se.fs = .idle ∧ se.bx = .idle := by
  rw [h.closed_gone hclosed]
  exact ⟨rfl, rfl, rfl⟩

theorem Session.Inv.quiet_of_idle (h : se.Inv c) (hst : se.st = .idle) : se.fs = .idle ∧ se.bx = .idle :=
  h.acquirer_quiet (by rw [hst]; decide) (by rw [hst]; decide)

/-- The step of `st` (10_state.md R27). -/
theorem Session.Move.st_next (h : Session.Move c se use se') (hinv : se.Inv c) :
    se'.st = se.st ∨ se'.st ∈ se.st.next ∨
      (se.st = .classifying ∧ se'.st = .idle ∧ ∃ tag d, se'.result = .err tag se'.addr d) := by
  cases h with
  | stays | waits => exact .inl rfl
  | enters _ _ _ hclosed | joins _ _ _ hclosed => exact .inl (hinv.idle_of_closed hclosed).1.symm
  | closes _ hst => exact .inl hst.symm
  | startsCall _ _ hst | acquires _ hst | retries _ hst => exact .inr (.inl (hst ▸ .head _))
  | acquirer hmove =>
    obtain hsame | ⟨hsending, hawaiting⟩ := hmove.st_next
    · exact .inl hsame
    · exact .inr (.inl (by rw [hsending, hawaiting]; decide))
  | goesOn _ hst hclass => exact .inr (.inl (by rw [hst]; obtain h | h | h := hclass.st <;> rw [h] <;> decide))
  | raises _ hst hclass hfatal =>
    obtain ⟨hretry, -⟩ | ⟨hsuccess, -⟩ | ⟨-, tag, d, herror⟩ := hclass.result
    · cases hretry.symm.trans hfatal
    · cases hsuccess.symm.trans hfatal
    · obtain ⟨-, -, haddr, -⟩ := Connection.mk.inj hclass.sameFrame.connection
      exact .inr (.inr ⟨hst, rfl, tag, d, herror.trans (congrArg (CallResult.err tag · d) haddr.symm)⟩)
  | ends _ hst =>
    obtain hst | hst := hst
    · exact .inr (.inl (hst ▸ .head _))
    · exact .inr (.inl (hst ▸ .head _))

theorem Session.AcquirerMove.fs_next (h : Session.AcquirerMove c se se') (hinv : se.AcquirerInv c) :
    se'.fs = se.fs ∨ se'.fs ∈ se.fs.next := by
  cases h with
  | sends _ _ hst =>
    have hfs := hinv.fs_idle (by rw [hst]; decide)
    exact .inr (hfs ▸ .head _)
  | firstByte _ _ _ hfs | secondByte _ _ _ hfs | frames _ _ hfs | settles _ _ hfs => exact .inr (hfs ▸ .head _)
  | flushes _ _ hfs =>
    obtain hfs | hfs | hfs := hfs <;> exact .inr (hfs ▸ .tail _ (.head _))
  | bodyByte | writes => exact .inl rfl
  | startsExchange =>
    unfold Session.startExchange
    split <;> exact .inl rfl
  | takesHeader answer =>
    obtain ⟨_, _, _, _, _, -, heq⟩ := se.takeHeader_shape c answer
    exact .inl (by rw [heq])
  | checksHeader =>
    obtain ⟨_, _, _, _, -, heq⟩ := se.checkHeader_shape c
    exact .inl (by rw [heq])
  | takesBody answer =>
    obtain ⟨_, _, heq⟩ := se.takeBody_shape answer
    exact .inl (by rw [heq])

theorem Session.AcquirerMove.bx_next (h : Session.AcquirerMove c se se') :
    se'.bx = se.bx ∨ se'.bx ∈ se.bx.next := by
  cases h with
  | sends | firstByte | secondByte | bodyByte | frames | flushes | settles => exact .inl rfl
  | startsExchange _ _ _ hbx =>
    unfold Session.startExchange
    split
    · exact .inr (hbx ▸ .tail _ (.head _))
    · exact .inr (hbx ▸ .head _)
  | writes _ _ _ hbx => exact .inr (hbx ▸ .head _)
  | takesHeader answer _ _ _ hbx =>
    obtain ⟨_, _, _, _, _, hnext, heq⟩ := se.takeHeader_shape c answer
    rw [heq, hbx]
    obtain rfl | rfl := hnext
    · exact .inr (.head _)
    · exact .inr (.tail _ (.head _))
  | checksHeader _ _ _ hbx =>
    obtain ⟨_, _, _, _, hnext, heq⟩ := se.checkHeader_shape c
    rw [heq, hbx]
    obtain rfl | rfl := hnext
    · exact .inr (.head _)
    · exact .inr (.tail _ (.head _))
  | takesBody answer _ _ _ hbx =>
    obtain ⟨_, _, heq⟩ := se.takeBody_shape answer
    rw [heq, hbx]
    exact .inr (.head _)

/-- The steps of `fs` and `bx` (R28, R29). -/
theorem Session.Move.acquirer_next (h : Session.Move c se use se') (hinv : se.Inv c) :
    (se'.fs = se.fs ∨ se'.fs ∈ se.fs.next) ∧ (se'.bx = se.bx ∨ se'.bx ∈ se.bx.next) := by
  cases h with
  | stays | waits | startsCall | acquires | retries | ends => exact ⟨.inl rfl, .inl rfl⟩
  | enters _ _ _ hclosed | joins _ _ _ hclosed =>
    obtain ⟨-, hfs, hbx⟩ := hinv.idle_of_closed hclosed
    exact ⟨.inl hfs.symm, .inl hbx.symm⟩
  | closes _ hst =>
    obtain ⟨hfs, hbx⟩ := hinv.quiet_of_idle hst
    exact ⟨.inl hfs.symm, .inl hbx.symm⟩
  | acquirer hmove => exact ⟨hmove.fs_next hinv.acquirerInv, hmove.bx_next⟩
  | goesOn _ _ hclass | raises _ _ hclass => exact ⟨.inl hclass.sameFrame.fs, .inl hclass.sameFrame.bx⟩

end

end Sys2Proof.Machine

namespace Sys2Proof
open Machine

/-- Settles O52: every session moves, stays or is reset, and each move keeps the four groups of clauses. -/
theorem stepKeepsSessionInvariants : Obligations.StepKeepsSessionInvariants := by
  unfold Obligations.StepKeepsSessionInvariants
  intro s t hinv hstep
  have hcfg := step_cfg hstep
  refine ⟨hcfg ▸ hinv.legal, fun sid => ?_⟩
  rw [hcfg]
  obtain ⟨use, hmove⟩ | ⟨-, hreset⟩ := step_session hstep sid
  · exact hmove.inv hinv.legal (hinv.sessions sid)
  · exact hreset ▸ Session.inv_reset s.cfg

/-- Settles O56: the moves of a session that meets its invariant, by register. -/
theorem machinesMoveAlongTheirTransitions : Obligations.MachinesMoveAlongTheirTransitions := by
  unfold Obligations.MachinesMoveAlongTheirTransitions
  intro s t hinv hreset hstep sid
  obtain ⟨use, hmove⟩ | ⟨hresets, -⟩ := step_session hstep sid
  · exact ⟨hmove.st_next (hinv.sessions sid), hmove.acquirer_next (hinv.sessions sid)⟩
  · exact absurd hresets hreset

end Sys2Proof
end

section
/-!
PROOFS. The locks (20_memory.md R72) and the form of the keyed stores (log entry 28) at every step, and the state after
reset (10_state.md R41).
-/

namespace Sys2Proof.Machine

/-! ### Locks and calls at one move -/

/-- What a move with this use of the locks does to the session's call. -/
def LockUse.Call (se se' : Session) : LockUse → Prop
  | .keeps => (se'.st = .idle ↔ se.st = .idle) ∧ (se.st ≠ .idle → se'.linkId = se.linkId)
  | .takes => se.st = .idle ∧ se'.st ≠ .idle ∧ se'.linkId = se.linkId
  | .frees => se.st ≠ .idle ∧ se'.st = .idle
  | .clears _ => se.st = .idle ∧ se'.st = .idle

section
variable {c : Config} {se se' : Session} {use : LockUse}

theorem Session.Move.call (h : Session.Move c se use se') (hquiet : se.isOpen = false → se.st = .idle) :
    use.Call se se' := by
  cases h with
  | stays | waits => exact ⟨Iff.rfl, fun _ => rfl⟩
  | enters _ _ _ hclosed => exact ⟨hquiet hclosed, rfl⟩
  | joins _ _ _ hclosed => exact ⟨iff_of_true rfl (hquiet hclosed), fun hst => absurd (hquiet hclosed) hst⟩
  | closes _ hst => exact ⟨iff_of_true rfl hst, fun _ => rfl⟩
  | startsCall _ _ hst => exact ⟨hst, nofun, rfl⟩
  | acquirer hmove =>
    obtain ⟨-, -, -, hlink⟩ := Connection.mk.inj hmove.sameCall.connection
    refine ⟨?_, fun _ => hlink⟩
    obtain hsame | ⟨hsending, hawaiting⟩ := hmove.st_next
    · rw [hsame]
    · rw [hsending, hawaiting]
      decide
  | acquires _ hst | retries _ hst => exact ⟨iff_of_false nofun (by rw [hst]; decide), fun _ => rfl⟩
  | goesOn _ hst hclass =>
    refine ⟨iff_of_false ?_ (by rw [hst]; decide), fun _ => hclass.linkId⟩
    obtain h | h | h := hclass.st <;> rw [h] <;> decide
  | raises _ hst => exact ⟨by rw [hst]; decide, rfl⟩
  | ends _ hst => exact ⟨by obtain h | h := hst <;> rw [h] <;> decide, rfl⟩

theorem Session.Move.quiet (h : Session.Move c se use se') (hquiet : se.isOpen = false → se.st = .idle)
    (hclosed : se'.isOpen = false) : se'.st = .idle := by
  have hcall := h.call hquiet
  cases h with
  | stays => exact hquiet hclosed
  | enters | joins => cases hclosed
  | closes | raises | ends => rfl
  | waits _ hopen | startsCall _ hopen | acquires hopen | retries hopen =>
    exact absurd hclosed (ne_false_of_eq_true hopen)
  | acquirer hmove =>
    obtain ⟨hopen, -, -, -⟩ := Connection.mk.inj hmove.sameCall.connection
    exact absurd hclosed (ne_false_of_eq_true (hopen.trans hmove.isOpen))
  | goesOn hopen _ hclass =>
    obtain ⟨hopen', -, -, -⟩ := Connection.mk.inj hclass.sameFrame.connection
    exact absurd hclosed (ne_false_of_eq_true (hopen'.trans hopen))

end

/-! ### Locks and calls at one step -/

section
variable {s t : State}

theorem State.lockOf_congr (h : t.locks = s.locks) (l : LinkId) : t.lockOf l = s.lockOf l :=
  congrArg (Assoc.get? l) h

/-- No lock of a link without an entry is held: a call in progress is a user of its link. -/
theorem LocksInv.lockOf_unregistered (h : LocksInv s) {l : LinkId} (hnone : s.regEntry l = none) :
    s.lockOf l = none := by
  by_contra hheld
  obtain ⟨sid, hsid⟩ := Option.ne_none_iff_exists'.1 hheld
  obtain ⟨hst, rfl⟩ := (h.held l sid).1 hsid
  have hopen : (s.session sid).isOpen = true := by
    by_contra hclosed
    exact hst (h.quiet sid (Bool.eq_false_of_not_eq_true hclosed))
  obtain ⟨e, he, -⟩ := h.registry.registered sid hopen
  cases hnone.symm.trans he

theorem State.lockOf_takeLock (s : State) (l k : LinkId) :
    (s.takeLock l).lockOf k = if k = l then some s.cur else s.lockOf k := by
  split_ifs with h
  · rw [h, State.lockOf_takeLock_same]
  · exact s.lockOf_takeLock_other h

theorem State.lockOf_freeLock (s : State) (l k : LinkId) :
    (s.freeLock l).lockOf k = if k = l then none else s.lockOf k := by
  split_ifs with h
  · rw [h, State.lockOf_freeLock_same]
  · exact s.lockOf_freeLock_other h

/-- Another session's locks stay: the current session takes a free lock, and frees its own. -/
theorem LocksInv.lockOf_other (h : LocksInv s) {use : LockUse} {se' : Session} (hcall : use.Call s.sess se')
    (hlocks : use.Meets s t) (l : LinkId) {sid : SessId} (hother : sid ≠ s.cur) :
    t.lockOf l = some sid ↔ s.lockOf l = some sid := by
  cases use with
  | keeps => rw [State.lockOf_congr hlocks]
  | takes =>
    obtain ⟨hfree, hlocks⟩ := hlocks
    rw [State.lockOf_congr hlocks, State.lockOf_takeLock]
    split_ifs with hl
    · rw [hl, hfree]
      exact iff_of_false (fun hcur => hother (Option.some.inj hcur).symm) nofun
    · exact Iff.rfl
  | frees =>
    rw [State.lockOf_congr hlocks, State.lockOf_freeLock]
    split_ifs with hl
    · rw [hl, (h.held s.sess.linkId s.cur).2 ⟨hcall.1, rfl⟩]
      exact iff_of_false nofun fun hcur => hother (Option.some.inj hcur).symm
    · exact Iff.rfl
  | clears link =>
    obtain ⟨hnone, hlocks⟩ := hlocks
    rw [State.lockOf_congr hlocks, State.lockOf_freeLock]
    split_ifs with hl
    · rw [hl, h.lockOf_unregistered hnone]
      exact iff_of_false nofun nofun
    · exact Iff.rfl

/-- The current session holds its link's lock exactly while its call is in progress. -/
theorem LocksInv.lockOf_cur (h : LocksInv s) {use : LockUse} {se' : Session} (hcall : use.Call s.sess se')
    (hlocks : use.Meets s t) (l : LinkId) :
    t.lockOf l = some s.cur ↔ (se'.st ≠ .idle ∧ se'.linkId = l) := by
  have hheld : s.lockOf l = some s.cur ↔ (s.sess.st ≠ .idle ∧ s.sess.linkId = l) := h.held l s.cur
  cases use with
  | keeps =>
    obtain ⟨hst, hlink⟩ := hcall
    rw [State.lockOf_congr hlocks, hheld, ne_eq, ne_eq, hst]
    exact and_congr_right fun h => by rw [hlink h]
  | takes =>
    obtain ⟨hidle, hst, hlink⟩ := hcall
    rw [State.lockOf_congr hlocks.2, State.lockOf_takeLock, hlink]
    split_ifs with hl
    · exact iff_of_true rfl ⟨hst, hl.symm⟩
    · exact iff_of_false (fun hcur => (hheld.1 hcur).1 hidle) fun h => hl h.2.symm
  | frees =>
    obtain ⟨-, hidle⟩ := hcall
    rw [State.lockOf_congr hlocks, State.lockOf_freeLock]
    split_ifs with hl
    · exact iff_of_false nofun fun h => h.1 hidle
    · exact iff_of_false (fun hcur => hl (hheld.1 hcur).2.symm) fun h => h.1 hidle
  | clears link =>
    obtain ⟨hidle, hidle'⟩ := hcall
    rw [State.lockOf_congr hlocks.2, State.lockOf_freeLock]
    split_ifs with hl
    · exact iff_of_false nofun fun h => h.1 hidle'
    · exact iff_of_false (fun hcur => (hheld.1 hcur).1 hidle) fun h => h.1 hidle'

theorem LocksInv.of_moves (h : LocksInv s) (hmoves : Moves s t) (hregistry : RegistryInv t) : LocksInv t := by
  have hsess : t.session s.cur = t.sess := by rw [State.sess, hmoves.cur]
  obtain ⟨use, hmove, hlocks⟩ := hmoves.move
  have hcall := hmove.call (h.quiet s.cur)
  refine ⟨hregistry, fun sid => ?_, fun l sid => ?_⟩
  · obtain rfl | hother := eq_or_ne sid s.cur
    · rw [hsess]
      exact hmove.quiet (h.quiet s.cur)
    · rw [hmoves.others sid hother]
      exact h.quiet sid
  · obtain rfl | hother := eq_or_ne sid s.cur
    · rw [hsess]
      exact h.lockOf_cur hcall hlocks l
    · rw [hmoves.others sid hother, h.lockOf_other hcall hlocks l hother]
      exact h.held l sid

theorem LocksInv.select (h : LocksInv s) (sid : SessId) (rest : List Input) : LocksInv (s.select sid rest) :=
  ⟨h.registry.congr h.registry.wf rfl rfl, h.quiet, h.held⟩

/-- With no lock held and no session in a call. -/
theorem LocksInv.of_free (hregistry : RegistryInv t) (hlocks : t.locks = [])
    (hidle : ∀ sid, (t.session sid).st = .idle) : LocksInv t := by
  refine ⟨hregistry, fun sid _ => hidle sid, fun l sid => iff_of_false ?_ fun h => h.1 (hidle sid)⟩
  rw [State.lockOf, hlocks]
  exact nofun

/-! ### The form of the stores -/

theorem KeepsConnections.wf (h : KeepsConnections s t) (hwf : Memory.wf s = true) : Memory.wf t = true := by
  induction h with
  | refl => exact hwf
  | setSess _ _ ih => exact Memory.wf_setSess _ ih
  | setCrc v _ ih => exact Memory.wf_setCrc v ih
  | setReply r _ ih => exact Memory.wf_setReply r ih
  | bumpFree _ ih => exact Memory.wf_bumpFree ih
  | takeLock l _ ih => exact Memory.wf_takeLock l ih
  | freeLock l _ ih => exact Memory.wf_freeLock l ih
  | setRx l b _ ih => exact Memory.wf_setRx l b ih
  | setTx l b _ ih => exact Memory.wf_setTx l b ih
  | setWire l b _ ih => exact Memory.wf_setWire l b ih
  | logBus l x _ ih => exact Memory.wf_logBus l x ih

theorem Memory.wf_of_execOpenSession {kind : Kind} {addr : Byte} {link : LinkId} (hwf : Memory.wf s = true)
    (h : execOpenSession kind addr link s = .next t) : Memory.wf t = true := by
  obtain ⟨-, ⟨why, rfl⟩ | ⟨-, -, rfl⟩ | ⟨-, e, -, -, rfl⟩⟩ := execOpenSession_next h
  · exact Memory.wf_setReply _ hwf
  · exact Memory.wf_setReply _ (Memory.wf_setSess _ (Memory.wf_freeLock link (Memory.wf_setReg link _ hwf)))
  · exact Memory.wf_setReply _ (Memory.wf_setSess _ (Memory.wf_setReg link _ hwf))

theorem Memory.wf_of_execCloseSession (hwf : Memory.wf s = true) (h : execCloseSession s = .next t) :
    Memory.wf t = true := by
  obtain ⟨-, rfl⟩ := execCloseSession_next h
  exact Memory.wf_setReply _ (Memory.wf_setSess _ (Memory.wf_leaveLink _ hwf))

theorem Memory.wf_of_execReset (hwf : Memory.wf s = true) (h : execReset s = .next t) : Memory.wf t = true := by
  cases h
  obtain ⟨-, -, -, -, -, hsent⟩ := (Memory.wf_iff s).1 hwf
  exact (Memory.wf_iff _).2 ⟨rfl, rfl, rfl, Assoc.canonical_ofList _ _, Assoc.canonical_ofList _ _, hsent⟩

/-! ### The state after reset -/

theorem registryInv_reset : RegistryInv State.reset :=
  ⟨Memory.wf_reset, nofun, nofun⟩

end

end Sys2Proof.Machine

namespace Sys2Proof
open Machine

/-- Settles O54: a move frees only the session's own lock and takes only a free one, as its call ends or starts. -/
theorem stepKeepsLockDiscipline : Obligations.StepKeepsLockDiscipline := by
  unfold Obligations.StepKeepsLockDiscipline
  intro s t hinv hstep
  have hregistry := stepKeepsRegistryCount s t hinv.registry hstep
  obtain ⟨sid, rest, hmoves | ⟨-, hreset⟩⟩ := step_moves hstep
  · exact (hinv.select sid rest).of_moves hmoves hregistry
  · have hlocks : t.locks = [] := by
      cases hreset
      rfl
    exact .of_free hregistry hlocks fun sid => by rw [execReset_session hreset sid, Session.reset]

/-- Settles O51: every write keeps the canonical form, and a step is made of writes. -/
theorem stepKeepsStoresCanonical : Obligations.StepKeepsStoresCanonical := by
  unfold Obligations.StepKeepsStoresCanonical
  intro s t hwf hstep
  obtain ⟨sid, rest, hkeeps | ⟨kind, addr, link, hopen⟩ | hclose | hreset⟩ := step_connections hstep
  all_goals have hselected := Memory.wf_select sid rest hwf
  · exact hkeeps.wf hselected
  · exact Memory.wf_of_execOpenSession hselected hopen
  · exact Memory.wf_of_execCloseSession hselected hclose
  · exact Memory.wf_of_execReset hselected hreset

/-- Settles O55: no session is open, no link entered and no lock held. -/
theorem resetStateMeetsInvariants : Obligations.ResetStateMeetsInvariants := by
  unfold Obligations.ResetStateMeetsInvariants
  exact ⟨Memory.wf_reset, ⟨by decide, fun _ => Session.inv_reset _⟩, registryInv_reset,
    .of_free registryInv_reset rfl fun _ => rfl⟩

end Sys2Proof
end

section
/-!
PROOFS. The other laws of the checksum (40_checksum.md R143 to R147, R149, 70_reset_and_hazards.md R395 (a)): the
register step is the bit-serial one, and it is injective, in the register and in the byte, so that no changed byte goes
unseen.
-/

namespace Sys2Proof.Machine

/-! ### The bit-serial form -/

/-- Data waiting on the high bits of the register enter it one bit at a time. -/
theorem crcBit_xor_eq_serialBit (r w : Word16) : crcBit (r ^^^ w) = serialBit r (w.getLsbD 15) ^^^ (w <<< 1) := by
  have hshift : (r ^^^ w) <<< 1 = r <<< 1 ^^^ w <<< 1 := BitVec.shiftLeft_xor_distrib r w 1
  unfold crcBit serialBit
  rw [BitVec.getLsbD_xor, hshift]
  split_ifs
  · ac_rfl
  · rfl

theorem crcStep_eq_bitSerial (c : Word16) (b : Byte) : crcStep c b = bitSerial c b := by
  have hbit (k : Nat) (hk : 8 ≤ k ∧ k ≤ 15) : (b.setWidth 16 <<< k).getLsbD 15 = b.getLsbD (15 - k) := by
    simp [Nat.not_lt.2 hk.2]
  have hgone : b.setWidth 16 <<< 16 = 0 := BitVec.shiftLeft_eq_zero le_rfl
  simp only [crcStep, crcBits_succ, crcBits_zero, crcBit_xor_eq_serialBit, ← BitVec.shiftLeft_add, Nat.reduceAdd,
    hgone]
  simp (disch := decide) only [hbit, Nat.reduceSub]
  exact BitVec.xor_zero

/-! ### The register step is injective -/

theorem crcBits_inj {n : Nat} {a b : Word16} : crcBits n a = crcBits n b ↔ a = b := by
  rw [← BitVec.xor_eq_zero_iff, ← crcBits_xor, ← BitVec.ofNat_eq_ofNat, crcBits_eq_zero_iff, BitVec.ofNat_eq_ofNat,
    BitVec.xor_eq_zero_iff]

theorem crcStep_register_inj {a b : Word16} {x : Byte} : crcStep a x = crcStep b x ↔ a = b := by
  rw [crcStep, crcStep, crcBits_inj, BitVec.xor_left_inj]

theorem setWidth_shiftLeft_inj {x y : Byte} : x.setWidth 16 <<< 8 = y.setWidth 16 <<< 8 ↔ x = y := by
  bv_omega

theorem crcStep_byte_inj {c : Word16} {x y : Byte} : crcStep c x = crcStep c y ↔ x = y := by
  rw [crcStep, crcStep, crcBits_inj, BitVec.xor_right_inj, setWidth_shiftLeft_inj]

theorem crc16_seed_inj {data : Bytes} {a b : Word16} : crc16 data a = crc16 data b ↔ a = b := by
  induction data generalizing a b with
  | nil => rfl
  | cons x data ih => rw [crc16_cons, crc16_cons, ih, crcStep_register_inj]

/-- A changed byte changes the checksum. -/
theorem crc16_set_ne {data : Bytes} {i : Nat} {x y : Byte} (hx : data[i]? = some x) (hxy : y ≠ x) (seed : Word16) :
    crc16 (data.set i y) seed ≠ crc16 data seed := by
  induction data generalizing i seed with
  | nil => cases hx
  | cons b data ih =>
    cases i with
    | zero =>
      cases hx
      rw [List.set_cons_zero, crc16_cons, crc16_cons, ne_eq, crc16_seed_inj, crcStep_byte_inj]
      exact hxy
    | succ i =>
      rw [List.set_cons_succ, crc16_cons, crc16_cons]
      exact ih hx (crcStep seed b)

theorem be16_inj {a b c d : Byte} : be16 a b = be16 c d ↔ a = c ∧ b = d := by
  refine ⟨fun h => ?_, fun ⟨hac, hbd⟩ => hac ▸ hbd ▸ rfl⟩
  have hbytes := congrArg beBytes h
  rw [beBytes_be16, beBytes_be16] at hbytes
  simpa using hbytes

/-- A changed byte of a valid packet fails the check. -/
theorem verify_set_eq_false {packet : Bytes} {i : Nat} {x y : Byte} (hvalid : verify packet = true)
    (hx : packet[i]? = some x) (hxy : y ≠ x) : verify (packet.set i y) = false := by
  obtain ⟨hi, lo, payload, rfl, hne, hck⟩ := (verify_eq_true_iff packet).1 hvalid
  match i with
  | 0 =>
    cases hx
    rw [List.set_cons_zero, verify_cons_cons _ _ hne, hck, decide_eq_false_iff_not, be16_inj]
    exact fun h => hxy h.1.symm
  | 1 =>
    cases hx
    rw [List.set_cons_succ, List.set_cons_zero, verify_cons_cons _ _ hne, hck, decide_eq_false_iff_not, be16_inj]
    exact fun h => hxy h.2.symm
  | i + 2 =>
    have hne' : payload.set i y ≠ [] := by simpa using hne
    rw [List.set_cons_succ, List.set_cons_succ, verify_cons_cons _ _ hne', ← hck, decide_eq_false_iff_not]
    exact crc16_set_ne (data := payload) hx hxy seed0

theorem xor_bit_ne {b : Byte} {j : Nat} (hj : j < 8) : b ^^^ (1#8 <<< j) ≠ b := by
  have hbit : 1#8 <<< j ≠ 0#8 := by
    interval_cases j <;> decide
  simpa using hbit

/-! ### Leading zeros -/

theorem crc16_replicate_zero (k : Nat) : crc16 (List.replicate k 0x00) seed0 = seed0 := by
  induction k with
  | zero => rfl
  | succ k ih =>
    have hzero : crcStep seed0 0x00 = seed0 := by decide
    rw [List.replicate_succ, crc16_cons, hzero, ih]

/-- A packet without a payload is no valid packet. -/
theorem verify_pair (hi lo : Byte) : verify [hi, lo] = false := rfl

end Sys2Proof.Machine

namespace Sys2Proof
open Machine

/-- Settles O5: each of the eight iterations takes the next bit of the byte into the bit-serial register. -/
theorem crc16StepIsBitSerial : Obligations.Crc16StepIsBitSerial := by
  unfold Obligations.Crc16StepIsBitSerial
  intro s b
  rw [exec_crc16Step, crcStep_eq_bitSerial]

/-- Settles O7: the fold over `a ++ b` goes on from the register that `a` leaves. -/
theorem crc16Chains : Obligations.Crc16Chains := by
  unfold Obligations.Crc16Chains
  intro s t a b seed h
  cases h
  rw [exec_crc16, exec_crc16, crc16_append]
  rfl

/-- Settles O9: the two bytes in front are those of the checksum, and `VERIFY` asks for a payload. -/
theorem madePacketVerifiesUnlessEmpty : Obligations.MadePacketVerifiesUnlessEmpty := by
  unfold Obligations.MadePacketVerifiesUnlessEmpty
  intro s p
  have hck := (be16_extractLsb' (crc16 p seed0)).symm
  refine ⟨_, _, hck, rfl, _, exec_verify _ s, ?_⟩
  rw [State.setReply_reply]
  cases p with
  | nil => rw [verify_pair]; rfl
  | cons b rest =>
    have hne : b :: rest ≠ [] := List.cons_ne_nil b rest
    rw [verify_cons_cons _ _ hne, ← hck, decide_eq_true rfl, decide_eq_true hne]

/-- Settles O11: a changed bit is a changed byte, in the checksum or in the payload. -/
theorem singleBitErrorFailsVerify : Obligations.SingleBitErrorFailsVerify := by
  unfold Obligations.SingleBitErrorFailsVerify
  intro s packet i j b hvalid hb hj
  refine ⟨_, exec_verify _ s, ?_⟩
  rw [State.setReply_reply, verify_set_eq_false hvalid hb (xor_bit_ne hj)]

/-- Settles O12: from the register 0 a byte 0 leads back to it. -/
theorem leadingZeroBytesLeaveChecksum : Obligations.LeadingZeroBytesLeaveChecksum := by
  unfold Obligations.LeadingZeroBytesLeaveChecksum
  intro s k p
  rw [exec_crc16, exec_crc16, crc16_append, crc16_replicate_zero]

end Sys2Proof
end

section
/-!
PROOFS. Whole acquisitions: the frame the synchronizer makes of the bytes in the queue (42_frame_acquirer.md R199 (a)),
the bus exchange that follows the environment's answers (R206), and the events no state accepts (60_exceptions.md R342).
-/

namespace Sys2Proof.Machine

/-! ### Reading a frame -/

/-- `t` comes from `s` by reading bytes: the current session's registers are `se`, and `rest` waits in the queue. -/
structure Reads (s t : State) (se : Session) (rest : Bytes) : Prop where
  sess : t.sess = se
  rx : t.rx s.sess.linkId = rest
  txFifo : t.txFifo = s.txFifo
  busLog : t.busLog = s.busLog
  elsewhere : SameElsewhere s t

section
variable {s t : State} {se : Session} {b : Byte} {rest : Bytes}

/-- One byte more, where `takeByte` writes the session's registers and nothing else. -/
theorem Reads.rxByte (h : Reads s t se (b :: rest)) (hstream : se.onStream = true) (hfs : se.fs ≠ .idle)
    (hlink : se.linkId = s.sess.linkId) {se' : Session}
    (hbyte : ∀ u : State, u.sess = se → u.cfg = s.cfg → u.takeByte b = u.setSess se') :
    ∃ u, exec (.acquireStream .rxByte) t = .next u ∧ Reads s u se' rest := by
  obtain ⟨rfl, hrx, htx, hbus, helse⟩ := h
  refine ⟨(t.setRx s.sess.linkId rest).setSess se', ?_, ⟨State.sess_setSess _ _, ?_, htx, hbus, ?_⟩⟩
  · refine exec_rxByte hstream (hlink ▸ hrx) hfs ?_
    rw [hlink]
    exact hbyte _ rfl helse.cfg
  · rw [State.rx_setSess, State.rx_setRx_same]
  · exact (helse.setRx rest).setSess se'

variable (hopen : s.sess.isOpen = true) (hkind : s.sess.kind = .stream)
include hopen hkind

/-- The body bytes up to `TERM`, after `buf`. -/
theorem Reads.body {buf d : Bytes} (hcap : ∀ n, s.cfg.rxCap = some n → buf.length + d.length ≤ n)
    (hterm : s.cfg.term ∉ d)
    (h : Reads s t { s.sess with rxBuf := buf, fs := .body } (d ++ s.cfg.term :: rest)) :
    ∃ u, runInstrs (List.replicate (d.length + 1) (.acquireStream .rxByte)) t = .next u ∧
      Reads s u { s.sess with rxBuf := buf ++ d, termSeen := true, acq := .frame (buf ++ d), fs := .idle } rest := by
  have hstream := Session.onStream_eq_true hopen hkind
  induction d generalizing buf t with
  | nil =>
    obtain ⟨u, hexec, hreads⟩ := h.rxByte hstream nofun rfl
      (se' := { s.sess with rxBuf := buf, termSeen := true, acq := .frame buf, fs := .idle })
      fun u hu hcfg => by
        rw [State.takeByte_body_term (by rw [hu]) (by rw [hcfg]), hu]
    rw [List.append_nil]
    exact ⟨u, runInstrs_cons_of_next hexec [], hreads⟩
  | cons b d ih =>
    rw [List.mem_cons, not_or] at hterm
    obtain ⟨hb, hd⟩ := hterm
    obtain ⟨u, hexec, hreads⟩ := h.rxByte hstream nofun rfl
      (se' := { s.sess with rxBuf := buf ++ [b], fs := .body })
      fun u hu hcfg => by
        rw [State.takeByte_body_stored (by rw [hu]) (by rw [hcfg]; exact Ne.symm hb), hu]
        refine bufferFull_eq_false fun n hn => ?_
        rw [hcfg] at hn
        have hroom := hcap n hn
        rw [hu]
        simp only [List.length_cons] at hroom
        dsimp only
        omega
    have hcap' : ∀ n, s.cfg.rxCap = some n → (buf ++ [b]).length + d.length ≤ n := fun n hn => by
      have hroom := hcap n hn
      simp only [List.length_cons, List.length_append, List.length_nil] at hroom ⊢
      omega
    obtain ⟨v, hrun, hreads'⟩ := ih hcap' hd hreads
    rw [List.append_assoc, List.singleton_append] at hreads'
    exact ⟨v, (runInstrs_cons_of_next hexec _).trans hrun, hreads'⟩

end

/-! ### Events no state accepts -/

theorem exec_acquireStream_offStream {s : State} (h : s.sess.onStream = false) (e : StreamEvent) :
    exec (.acquireStream e) s = .next s :=
  if_neg (Bool.eq_false_iff.1 h)

/-- On any session an event is taken or passes by. -/
theorem exec_acquireStream_of_onEvent {s : State} {e : StreamEvent} (h : s.onEvent e = s) :
    exec (.acquireStream e) s = .next s := by
  cases hstream : s.sess.onStream with
  | true => rw [exec_acquireStream hstream, h]
  | false => exact exec_acquireStream_offStream hstream e

theorem Session.onStream_eq_false {se : Session} (h : se.isOpen = false ∨ se.kind = .bus) : se.onStream = false := by
  rw [Bool.eq_false_iff, ne_eq, Session.onStream_iff]
  rintro ⟨hopen, hkind⟩
  obtain hclosed | hbus := h
  · exact absurd hclosed (ne_false_of_eq_true hopen)
  · cases hkind.symm.trans hbus

theorem State.onEvent_idle {s : State} (hfs : s.sess.fs = .idle) (e : StreamEvent) : s.onEvent e = s := by
  cases e with
  | rxByte => simp [State.onEvent, State.onRxByte, hfs]
  | rxTimeout => simp [State.onEvent, State.onRxTimeout, hfs]
  | settleDone => simp [State.onEvent, State.onSettleDone, hfs]

theorem State.onRxByte_empty {s : State} (hrx : s.rx s.sess.linkId = []) : s.onRxByte = s := by
  simp [State.onRxByte, hrx]

theorem State.onRxTimeout_settle {s : State} (hfs : s.sess.fs = .settle) : s.onRxTimeout = s := by
  simp [State.onRxTimeout, hfs]

theorem State.onSettleDone_other {s : State} (hfs : s.sess.fs ≠ .settle) : s.onSettleDone = s :=
  if_neg hfs

/-! ### A whole exchange -/

theorem SameElsewhere.logBus {s t : State} (h : SameElsewhere s t) (l : LinkId) (x : BusTxn) :
    SameElsewhere s (t.logBus l x) :=
  { h with }

section
variable {s : State}

/-- The registers of a session whose exchange is at its header read. -/
def Session.headerDue (se : Session) : Session :=
  { se with rxBuf := [], hdrCkOk := false, hdrNak := false, skipWrite := false, bx := .hdr, st := .awaiting }

/-- The exchange's start and its write, or its start alone after `skip_write`, come to the header read. -/
theorem exchange_reaches_header (hopen : s.sess.isOpen = true) (hkind : s.sess.kind = .bus)
    (hst : s.sess.st = .sending) (hbx : s.sess.bx = .idle) : ∃ t : State,
      (∀ is, runInstrs (.busExchange [] :: (if s.sess.skipWrite then [] else [.busExchange []]) ++ is) s
        = runInstrs is t) ∧
      t.sess = s.sess.headerDue ∧
      t.busLog = s.busLog
        ++ (if s.sess.skipWrite then [] else [(s.sess.linkId, .write s.sess.addr s.sess.txPkt)]) ∧
      t.rxFifo = s.rxFifo ∧ t.txFifo = s.txFifo ∧ SameElsewhere s t := by
  have hstart := exec_busExchange_idle (Session.onBus_eq_true hopen hkind) hst hbx []
  have helse := (SameElsewhere.refl s).setSess s.sess.startExchange
  cases hskip : s.sess.skipWrite with
  | true =>
    rw [Session.startExchange_skipWrite hskip] at hstart helse
    exact ⟨_, fun is => runInstrs_cons_of_next hstart is, State.sess_setSess _ _, (List.append_nil _).symm, rfl, rfl,
      helse⟩
  | false =>
    rw [Session.startExchange_write hskip] at hstart helse
    have hsess := s.sess_setSess { s.sess with rxBuf := [], hdrCkOk := false, hdrNak := false, bx := .write }
    have hwrite := exec_busExchange_write (r := [])
      (s := s.setSess { s.sess with rxBuf := [], hdrCkOk := false, hdrNak := false, bx := .write })
      (by rw [hsess]; exact Session.onBus_eq_true hopen hkind) (by rw [hsess]; exact hst) (by rw [hsess])
    refine ⟨_, fun is => (runInstrs_cons_of_next hstart _).trans (runInstrs_cons_of_next hwrite is), ?_, ?_, rfl, rfl,
      (helse.logBus _ _).setSess _⟩
    · rw [State.writeRequest, State.sess_setSess, hsess, Session.headerDue, ← hskip]
    · rw [State.writeRequest, hsess]
      rfl

/-- The exchange up to the answer to its header read. -/
theorem exchange_takes_header (hopen : s.sess.isOpen = true) (hkind : s.sess.kind = .bus)
    (hst : s.sess.st = .sending) (hbx : s.sess.bx = .idle) {h : Bytes} (hlen : h.length ≤ 3) : ∃ t : State,
      runInstrs (.busExchange [] :: (if s.sess.skipWrite then [] else [.busExchange []]) ++ [.busExchange h]) s
        = .next t ∧
      t.sess = s.sess.headerDue.takeHeader s.cfg h ∧
      t.busLog = s.busLog
        ++ (if s.sess.skipWrite then [] else [(s.sess.linkId, .write s.sess.addr s.sess.txPkt)])
        ++ [(s.sess.linkId, .read s.sess.addr 3 h)] ∧
      t.rxFifo = s.rxFifo ∧ t.txFifo = s.txFifo ∧ SameElsewhere s t := by
  obtain ⟨t, hrun, hsess, hlog, hrx, htx, helse⟩ := exchange_reaches_header hopen hkind hst hbx
  have hexec := exec_busExchange_hdr (s := t) (hsess ▸ Session.onBus_eq_true hopen hkind) (hsess ▸ rfl) (hsess ▸ rfl) h
  have hanswer : busAnswer hdrLen h = h := busAnswer_of_length_le hlen
  refine ⟨_, (hrun _).trans (runInstrs_cons_of_next hexec []), ?_, ?_, hrx, htx, (helse.logBus _ _).setSess _⟩
  · rw [State.readHeader, State.sess_setSess, hsess, helse.cfg, hanswer]
  · rw [State.readHeader, State.busRead, hanswer, hsess, State.setSess_busLog, State.logBus_busLog, hlog]
    rfl

theorem Session.takeHeader_short {se : Session} {h : Bytes} (c : Config) (hlen : h.length < 3) :
    se.takeHeader c h = { se with acq := .noFrame, bx := .idle } := by
  match h, hlen with
  | [], _ => rfl
  | [_], _ => rfl
  | [_, _], _ => rfl

/-- The body read that a good header leads to. -/
theorem exec_body_answer {t : State} (hbus : t.sess.onBus = true) (hst : t.sess.st = .awaiting)
    (hbx : t.sess.bx = .body) {r : Bytes} (hr : r.length ≤ t.sess.hdr.length.toNat) :
    ∃ u, exec (.busExchange r) t = .next u ∧ u.sess.bx = .idle ∧
      u.sess.acq = (if r.length < t.sess.hdr.length.toNat then .noFrame else .frame r) ∧
      u.busLog = t.busLog ++ [(t.sess.linkId, .read t.sess.addr t.sess.hdr.length.toNat r)] ∧
      ∀ s, SameElsewhere s t → SameElsewhere s u := by
  refine ⟨_, exec_busExchange_body hbus hst hbx r, ?_, ?_, ?_, fun s h => (h.logBus _ _).setSess _⟩
  · rw [State.readBody_of_length_le hr, State.sess_setSess]
    obtain ⟨rx, acq, heq⟩ := t.sess.takeBody_shape r
    rw [heq]
  · rw [State.readBody_of_length_le hr, State.sess_setSess]
    split_ifs with hshort
    · rw [Session.takeBody_short hshort]
    · rw [Session.takeBody_full (Nat.not_lt.1 hshort)]
  · rw [State.readBody_of_length_le hr]
    rfl

end

end Sys2Proof.Machine

namespace Sys2Proof
open Machine

/-- Settles O22: two bytes of any value, and then, by induction on the body bytes, the rest of the frame. -/
theorem streamFrameIsAcquired : Obligations.StreamFrameIsAcquired := by
  unfold Obligations.StreamFrameIsAcquired
  intro s c0 c1 d rest hopen hkind hfs hcap hterm hrx
  have hstream := Session.onStream_eq_true hopen hkind
  have hstart : Reads s s s.sess (c0 :: c1 :: (d ++ s.cfg.term :: rest)) := ⟨rfl, hrx, rfl, rfl, .refl s⟩
  obtain ⟨t₀, hexec₀, hreads₀⟩ := hstart.rxByte hstream (by rw [hfs]; decide) rfl
    fun u hu _ => by rw [State.takeByte_ck0 (by rw [hu, hfs]), hu]
  obtain ⟨t₁, hexec₁, hreads₁⟩ := hreads₀.rxByte hstream nofun rfl
    fun u hu _ => by rw [State.takeByte_ck1 (by rw [hu]), hu]
  obtain ⟨t, hrun, hreads⟩ := Reads.body (buf := [c0, c1]) hopen hkind (fun n hn => by
    rw [Nat.add_comm]
    exact hcap n hn) hterm hreads₁
  exact ⟨t, (runInstrs_cons_of_next hexec₀ _).trans ((runInstrs_cons_of_next hexec₁ _).trans hrun), hreads.sess,
    hreads.rx, hreads.txFifo, hreads.busLog, hreads.elsewhere⟩

/-- Settles O26: no branch of the synchronizer takes the event. -/
theorem unacceptedEventsChangeNothing : Obligations.UnacceptedEventsChangeNothing := by
  unfold Obligations.UnacceptedEventsChangeNothing
  refine fun s => ⟨fun e h => ?_, fun hrx => ?_, fun hfs => ?_, fun hfs => ?_⟩
  · obtain hclosed | hbus | hfs := h
    · exact exec_acquireStream_offStream (Session.onStream_eq_false (.inl hclosed)) e
    · exact exec_acquireStream_offStream (Session.onStream_eq_false (.inr hbus)) e
    · exact exec_acquireStream_of_onEvent (State.onEvent_idle hfs e)
  · exact exec_acquireStream_of_onEvent (State.onRxByte_empty hrx)
  · exact exec_acquireStream_of_onEvent (State.onRxTimeout_settle hfs)
  · exact exec_acquireStream_of_onEvent (State.onSettleDone_other hfs)

/-- Settles O27: the exchange comes to its header read, whose answer decides by its length, its checksum and its
status. -/
theorem busExchangeFollowsAnswers : Obligations.BusExchangeFollowsAnswers := by
  unfold Obligations.BusExchangeFollowsAnswers
  intro s h hopen hkind hst hbx hlen
  obtain ⟨t, hrun, hsess, hlog, hrx, htx, helse⟩ := exchange_takes_header hopen hkind hst hbx hlen
  obtain ⟨hdr, ok, nak, acq, bx, -, hshape⟩ := s.sess.headerDue.takeHeader_shape s.cfg h
  have hfields := hsess.trans hshape
  refine ⟨t, hrun, hlog, ?_, ?_, hrx, htx, helse, ?_, fun hshort => ?_, ?_⟩
  · rw [hfields, Session.headerDue]
  · rw [hfields, Session.headerDue]
  · rw [hfields, Session.headerDue]
  · rw [hsess, Session.takeHeader_short _ hshort]
    exact ⟨rfl, rfl, rfl, rfl, rfl⟩
  · rintro a n c rfl
    change t.sess = Session.checkHeader s.cfg { s.sess.headerDue with hdr := ⟨a, n, c⟩ } at hsess
    refine ⟨fun hck => ?_, fun hck hnak => ?_, fun hck hnak => ?_⟩
    · have hck : headerCkOk ⟨a, n, c⟩ = false := headerCkOk_eq_false hck
      rw [hsess, Session.checkHeader_bad hck]
      exact ⟨rfl, rfl⟩
    · have hck : headerCkOk ⟨a, n, c⟩ = true := headerCkOk_eq_true hck
      have hnak : headerIsNak s.cfg ⟨a, n, c⟩ = true := hnak
      rw [hsess, Session.checkHeader_nak hck hnak]
      exact ⟨rfl, rfl⟩
    · have hck : headerCkOk ⟨a, n, c⟩ = true := headerCkOk_eq_true hck
      have hnak : headerIsNak s.cfg ⟨a, n, c⟩ = false := hnak
      rw [Session.checkHeader_good hck hnak] at hsess
      refine ⟨by rw [hsess], fun r hr => ?_⟩
      have hanswer := exec_body_answer (t := t) (r := r)
      rw [hsess] at hanswer
      obtain ⟨u, hexec, hbx, hacq, hbody, hframe⟩ := hanswer (Session.onBus_eq_true hopen hkind) rfl rfl hr
      exact ⟨u, hexec, hbx, hacq, hbody, hframe s helse⟩

end Sys2Proof
end

section
/-!
PROOFS. The operations that need the session at one point of a call (10_state.md R27, log entries 12 and 35): where they
run the engine's own step, and where they stop by name.
-/

namespace Sys2Proof.Machine

/-! ### A guarded operation, at its point and off it -/

section
variable {s : State}

theorem sendPacket_due (h : s.sess.atStreamSend = true) : sendPacket s.sess.txUnit s = .next s.sendStream :=
  if_pos ⟨h, rfl⟩

theorem sendPacket_notDue {p : Bytes} (h : s.sess.atStreamSend = false ∨ s.sess.txUnit ≠ p) :
    sendPacket p s = .fault .sendNotDue :=
  if_neg fun ⟨hat, hp⟩ => h.elim (fun hat' => absurd hat' (ne_false_of_eq_true hat)) fun hp' => hp' hp

theorem sendFramed_due (h : s.sess.atStreamSend = true) :
    sendFramed (s.sess.txUnit ++ [s.cfg.term]) s = .next s.sendStream :=
  if_pos ⟨h, rfl⟩

theorem sendFramed_notDue {bs : Bytes} (h : s.sess.atStreamSend = false ∨ s.sess.txUnit ++ [s.cfg.term] ≠ bs) :
    sendFramed bs s = .fault .sendNotDue :=
  if_neg fun ⟨hat, hp⟩ => h.elim (fun hat' => absurd hat' (ne_false_of_eq_true hat)) fun hp' => hp' hp

theorem writePacket_due (h : s.sess.atBusWrite = true) : writePacket s.sess.txPkt s = .next s.writeRequest :=
  if_pos ⟨h, rfl⟩

theorem writePacket_notDue {p : Bytes} (h : s.sess.atBusWrite = false ∨ s.sess.txPkt ≠ p) :
    writePacket p s = .fault .sendNotDue :=
  if_neg fun ⟨hat, hp⟩ => h.elim (fun hat' => absurd hat' (ne_false_of_eq_true hat)) fun hp' => hp' hp

theorem headerArrives_due (h : s.sess.atHeader = true) (answer : Bytes) :
    headerArrives answer s = .next (s.readHeader answer) :=
  if_pos h

theorem headerArrives_notDue (h : s.sess.atHeader = false) (answer : Bytes) :
    headerArrives answer s = .fault .noExchange :=
  if_neg (Bool.eq_false_iff.1 h)

theorem bodyArrives_due (h : s.sess.atBody = true) (answer : Bytes) :
    bodyArrives answer s = .next (s.readBody answer) :=
  if_pos h

theorem bodyArrives_notDue (h : s.sess.atBody = false) (answer : Bytes) :
    bodyArrives answer s = .fault .noExchange :=
  if_neg (Bool.eq_false_iff.1 h)

theorem peerSends_due (h : s.sess.onStream = true) (bs : Bytes) :
    peerSends bs s = .next (s.arrive s.sess.linkId bs) :=
  if_pos h

theorem peerSends_notDue (h : s.sess.onStream = false) (bs : Bytes) : peerSends bs s = .fault .noStreamLink :=
  if_neg (Bool.eq_false_iff.1 h)

theorem classifyBytes_due {bs : Bytes} (h : s.sess.atClassify = true) (hacq : s.sess.acq = .frame bs) :
    classifyBytes bs s = .next s.classifyStep :=
  if_pos ⟨h, hacq⟩

theorem classifyBytes_notDue {bs : Bytes} (h : s.sess.atClassify = false ∨ s.sess.acq ≠ .frame bs) :
    classifyBytes bs s = .fault .notClassifying :=
  if_neg fun ⟨hat, hp⟩ => h.elim (fun hat' => absurd hat' (ne_false_of_eq_true hat)) fun hp' => hp' hp

theorem respond_due {ck : Word16} {p : Bytes} {cls : Session → Session} (h : s.sess.atClassify = true)
    (hacq : s.sess.acq = .frame (packetBytes ck p)) (hverify : verify (packetBytes ck p) = true) :
    respond ck p cls s
      = .next ((s.runVerify (packetBytes ck p)).leaveClassifying (cls { s.sess with ckOk := true })) :=
  if_pos ⟨h, hacq, hverify⟩

theorem respond_notDue {ck : Word16} {p : Bytes} {cls : Session → Session}
    (h : s.sess.atClassify = false ∨ s.sess.acq ≠ .frame (packetBytes ck p) ∨ verify (packetBytes ck p) = false) :
    respond ck p cls s = .fault .notClassifying := by
  refine if_neg fun ⟨hat, hacq, hverify⟩ => ?_
  obtain hat' | hacq' | hverify' := h
  · exact absurd hat' (ne_false_of_eq_true hat)
  · exact hacq' hacq
  · exact absurd hverify' (ne_false_of_eq_true hverify)

theorem execRqResend_due (h : s.sess.atStreamSend = true) (hsel : s.sess.txSel = .resendRq) :
    execRqResend s = .next s.sendStream := by
  have hunit : s.sess.txUnit = resendPacket := Session.txUnit_resendRq hsel
  rw [execRqResend, if_pos hsel, ← hunit, sendPacket_due h]

theorem execRqResend_notDue (h : s.sess.atStreamSend = false ∨ s.sess.txSel = .original) :
    execRqResend s = .fault .sendNotDue := by
  unfold execRqResend
  split_ifs with hsel
  · refine sendPacket_notDue (.inl (h.resolve_right ?_))
    rw [hsel]
    exact nofun
  · rfl

theorem execHdrCheck_notDue (h : s.sess.atHeader = false) : execHdrCheck s = .fault .noExchange :=
  if_neg (Bool.eq_false_iff.1 h)

theorem execClassify_notDue (h : s.sess.atClassify = false) : execClassify s = .fault .notClassifying :=
  if_neg (Bool.eq_false_iff.1 h)

theorem execFlushRecover_notDue (h : s.sess.onStream = false ∨ s.sess.fs = .idle ∨ s.sess.fs = .settle) :
    execFlushRecover s = .fault .notAcquiring := by
  refine if_neg fun ⟨hstream, hfs⟩ => ?_
  obtain hoff | hrest := h
  · exact absurd hoff (ne_false_of_eq_true hstream)
  · obtain hidle | hsettle := hrest <;> simp_all

/-- The packet due, by what the session is to send. -/
theorem Session.txUnit_eq {se : Session} {p : Bytes} (horiginal : se.txSel = .original → p = se.txPkt)
    (hresend : se.txSel = .resendRq → p = [0x18, 0x61, 0x45]) : se.txUnit = p := by
  cases hsel : se.txSel with
  | original => rw [Session.txUnit_original hsel, horiginal hsel]
  | resendRq => rw [Session.txUnit_resendRq hsel, hresend hsel]

end

/-! ### Off the points of a call -/

section
variable {se : Session}

theorem Session.atStreamSend_eq_false (h : se.isOpen = false ∨ se.kind = .bus ∨ se.st ≠ .sending) :
    se.atStreamSend = false := by
  rw [Bool.eq_false_iff, ne_eq, Session.atStreamSend_iff]
  rintro ⟨hopen, hkind, hst⟩
  simp_all

theorem Session.atBusWrite_eq_false
    (h : se.isOpen = false ∨ se.kind = .stream ∨ se.st ≠ .sending ∨ se.bx ≠ .write) : se.atBusWrite = false := by
  rw [Bool.eq_false_iff, ne_eq, Session.atBusWrite_iff]
  rintro ⟨hopen, hkind, hbx, hst⟩
  simp_all

theorem Session.atHeader_eq_false
    (h : se.isOpen = false ∨ se.kind = .stream ∨ se.st ≠ .awaiting ∨ se.bx ≠ .hdr) : se.atHeader = false := by
  rw [Bool.eq_false_iff, ne_eq, Session.atHeader_iff]
  rintro ⟨hopen, hkind, hbx, hst⟩
  simp_all

theorem Session.atBody_eq_false
    (h : se.isOpen = false ∨ se.kind = .stream ∨ se.st ≠ .awaiting ∨ se.bx ≠ .body) : se.atBody = false := by
  rw [Bool.eq_false_iff, ne_eq, Session.atBody_iff]
  rintro ⟨hopen, hkind, hbx, hst⟩
  simp_all

theorem Session.atClassify_eq_false (h : se.isOpen = false ∨ se.st ≠ .classifying) : se.atClassify = false := by
  rw [Bool.eq_false_iff, ne_eq, Session.atClassify_iff]
  rintro ⟨hopen, hst⟩
  simp_all

end

/-- The exchange has a step while `SENDING` before the write and at it, and while `AWAITING` at the two reads. -/
theorem exec_busExchange_notDue {s : State} (h : s.sess.isOpen = false ∨ s.sess.kind = .stream ∨
      (s.sess.st ≠ .sending ∧ s.sess.st ≠ .awaiting) ∨
      (s.sess.st = .sending ∧ s.sess.bx ≠ .idle ∧ s.sess.bx ≠ .write) ∨
      (s.sess.st = .awaiting ∧ s.sess.bx ≠ .hdr ∧ s.sess.bx ≠ .body)) (r : Bytes) :
    exec (.busExchange r) s = .fault .noExchange := by
  change execBusExchange r s = _
  unfold execBusExchange
  dsimp only
  split_ifs with hbus
  · obtain ⟨hopen, hkind⟩ := Session.onBus_iff.1 hbus
    split <;> simp_all
  · rfl

/-! ### A frame that is a valid packet -/

theorem verify_packetBytes {ck : Word16} {b : Byte} {rest : Bytes} :
    verify (packetBytes ck (b :: rest)) = decide (crc16 (b :: rest) seed0 = ck) := by
  have hbytes : be16 (ck.extractLsb' 8 8) (ck.extractLsb' 0 8) = ck := be16_extractLsb' ck
  rw [packetBytes, beBytes]
  exact (verify_cons_cons _ _ (List.cons_ne_nil b rest)).trans (by rw [hbytes])

theorem payloadOf_packetBytes (ck : Word16) (p : Bytes) : payloadOf (packetBytes ck p) = p := rfl

/-- The response that is the frame being classified is classified by its status byte. -/
theorem respond_eq_internal {s : State} {ck : Word16} {b : Byte} {rest : Bytes} {cls : Session → Session}
    (hopen : s.sess.isOpen = true) (hst : s.sess.st = .classifying)
    (hacq : s.sess.acq = .frame (beBytes ck ++ b :: rest)) (hck : crc16 (b :: rest) seed0 = ck)
    (hcls : { s.sess with ckOk := true }.classStatus s.cfg (b :: rest) = cls { s.sess with ckOk := true }) :
    respond ck (b :: rest) cls s = .next s.internal := by
  rw [respond_due (Session.atClassify_iff.2 ⟨hopen, hst⟩) hacq (verify_packetBytes.trans (decide_eq_true hck)),
    State.internal_classifying hopen hst, State.classifyStep, State.checkAcquired_frame hacq,
    Session.classify_statusByte s.cfg hacq hck, hcls]
  rfl

/-- What the response decoder rejects is no valid packet. -/
theorem verify_of_decodeResp_error {bs : Bytes} {e : DecodeReject} (h : decodeResp bs = .error e) :
    verify bs = false := by
  by_contra hverify
  obtain ⟨hi, lo, payload, rfl, hne, hck⟩ := (verify_eq_true_iff bs).1 (Bool.eq_true_of_not_eq_false hverify)
  obtain ⟨b, rest, rfl⟩ := List.exists_cons_of_ne_nil hne
  have hbytes : hi :: lo :: b :: rest = beBytes (be16 hi lo) ++ b :: rest := by rw [beBytes_be16]; rfl
  have hok := decodeResp_eq_ok_iff.2 ⟨be16 hi lo, b, rest, hck.symm, hbytes, rfl⟩
  cases hok.symm.trans h

/-- The peer's bytes join the receive queue, and nothing else changes. -/
theorem arrive_frame (s : State) (bs : Bytes) :
    (s.arrive s.sess.linkId bs).rx s.sess.linkId = s.rx s.sess.linkId ++ bs ∧
      SameElsewhere s (s.arrive s.sess.linkId bs) :=
  ⟨s.rx_setRx_same s.sess.linkId _, (SameElsewhere.refl s).setRx _⟩

end Sys2Proof.Machine

namespace Sys2Proof
open Machine

/-- Settles O33: every operation of a call is guarded by the session's point in it, and by the bytes due there. -/
theorem unitsNotDueStopByName : Obligations.UnitsNotDueStopByName := by
  unfold Obligations.UnitsNotDueStopByName
  intro s
  refine ⟨fun h => ?_, fun p horiginal hresend => ?_, fun hsel => ?_, fun h ck p fn args => ?_, fun ck payload h => ?_,
    fun ck fn args h => ?_, fun h => ?_, fun h ck p => ?_, exec_busExchange_notDue, fun h => ?_, fun ck b r h => ?_,
    fun h => ?_, fun h ck p => ?_, fun bs => ⟨fun h => ?_, fun p horiginal hresend => ?_, fun h => ?_, fun h => ?_,
      fun h => ?_, fun h => ?_, fun h => ?_⟩⟩
  · have hat := Session.atStreamSend_eq_false h
    exact ⟨fun ck p addr fn args => ⟨sendPacket_notDue (.inl hat), sendPacket_notDue (.inl hat)⟩,
      execRqResend_notDue (.inl hat)⟩
  · have hunit := Session.txUnit_eq horiginal hresend
    exact ⟨fun ck payload hp => sendPacket_notDue (.inr (hunit ▸ hp)),
      fun ck addr fn args hp => sendPacket_notDue (.inr (hunit ▸ hp))⟩
  · exact execRqResend_notDue (.inr hsel)
  · have hat := Session.atBusWrite_eq_false h
    exact ⟨writePacket_notDue (.inl hat), writePacket_notDue (.inl hat)⟩
  · exact writePacket_notDue (.inr h)
  · exact writePacket_notDue (.inr h)
  · have hat := Session.atHeader_eq_false h
    exact ⟨fun a n c => ⟨headerArrives_notDue hat _, headerArrives_notDue hat _⟩, execHdrCheck_notDue hat⟩
  · exact bodyArrives_notDue (Session.atBody_eq_false h) _
  · have hat := Session.atClassify_eq_false h
    exact ⟨fun ck b r => ⟨respond_notDue (.inl hat), respond_notDue (.inl hat), respond_notDue (.inl hat),
      respond_notDue (.inl hat)⟩, execClassify_notDue hat⟩
  · have hnot : s.sess.acq ≠ .frame (packetBytes ck (b :: r)) ∨ verify (packetBytes ck (b :: r)) = false :=
      h.imp_right fun hck => verify_packetBytes.trans (decide_eq_false hck)
    refine ⟨?_, ?_, ?_, respond_notDue (.inr hnot)⟩
    all_goals
      rintro rfl
      exact respond_notDue (.inr hnot)
  · refine execFlushRecover_notDue ?_
    obtain hclosed | hbus | hfs := h
    · exact .inl (Session.onStream_eq_false (.inl hclosed))
    · exact .inl (Session.onStream_eq_false (.inr hbus))
    · exact .inr hfs
  · exact peerSends_notDue (Session.onStream_eq_false h) _
  · have hat := Session.atStreamSend_eq_false h
    exact ⟨sendPacket_notDue (.inl hat), sendFramed_notDue (.inl hat)⟩
  · have hunit := Session.txUnit_eq horiginal hresend
    exact ⟨fun hbs => sendPacket_notDue (.inr (hunit ▸ hbs.symm)),
      fun hbs => sendFramed_notDue (.inr (hunit ▸ hbs.symm))⟩
  · have hnot : s.sess.atBusWrite = false ∨ s.sess.txPkt ≠ bs := by
      obtain hclosed | hstream | hst | hbx | hbs := h
      · exact .inl (Session.atBusWrite_eq_false (.inl hclosed))
      · exact .inl (Session.atBusWrite_eq_false (.inr (.inl hstream)))
      · exact .inl (Session.atBusWrite_eq_false (.inr (.inr (.inl hst))))
      · exact .inl (Session.atBusWrite_eq_false (.inr (.inr (.inr hbx))))
      · exact .inr hbs.symm
    exact ⟨writePacket_notDue hnot, writePacket_notDue hnot⟩
  · exact headerArrives_notDue (Session.atHeader_eq_false h) bs
  · exact bodyArrives_notDue (Session.atBody_eq_false h) bs
  · refine classifyBytes_notDue ?_
    obtain hclosed | hst | hacq := h
    · exact .inl (Session.atClassify_eq_false (.inl hclosed))
    · exact .inl (Session.atClassify_eq_false (.inr hst))
    · exact .inr hacq
  · exact peerSends_notDue (Session.onStream_eq_false h) bs

/-- Settles O32: at its point of a call each row is the engine's step, by the guard's other branch. -/
theorem wireRowsRunTheEngine : Obligations.WireRowsRunTheEngine := by
  unfold Obligations.WireRowsRunTheEngine
  intro s ck payload
  refine ⟨⟨_, rfl, rfl⟩, fun hopen hkind => ?_, fun hopen hkind => ?_, fun hopen hst h rest hpayload hacq hck => ?_,
    fun bs => ⟨rfl, fun e => verify_of_decodeResp_error, fun hopen hst hacq => ?_, fun hopen hkind => ?_,
      fun hopen hkind => ?_⟩⟩
  · have hstream := Session.onStream_eq_true hopen hkind
    obtain ⟨hrx, helse⟩ := arrive_frame s (beBytes ck ++ payload ++ [s.cfg.term])
    refine ⟨⟨_, peerSends_due hstream _, hrx, rfl, rfl, rfl, helse⟩, fun hst => ?_⟩
    have hat := Session.atStreamSend_iff.2 ⟨hopen, hkind, hst⟩
    rw [State.internal_stream_send hopen hst hkind]
    refine ⟨fun p horiginal hresend => ?_, execRqResend_due hat⟩
    have hunit := Session.txUnit_eq horiginal hresend
    refine ⟨fun hp => ?_, fun addr fn args hp => ?_⟩
    · exact (congrArg (sendPacket · s) (hunit.trans hp).symm).trans (sendPacket_due hat)
    · exact (congrArg (sendPacket · s) (hunit.trans hp).symm).trans (sendPacket_due hat)
  · refine ⟨fun hst hbx => ?_, fun hst hbx a n c => ?_, fun hst hbx => ?_⟩
    · have hat := Session.atBusWrite_iff.2 ⟨hopen, hkind, hbx, hst⟩
      rw [State.internal_bus_write hopen hst hkind hbx]
      refine ⟨fun hp => ?_, fun fn args hp => ?_⟩
      · exact (congrArg (writePacket · s) hp.symm).trans (writePacket_due hat)
      · exact (congrArg (writePacket · s) hp.symm).trans (writePacket_due hat)
    · have hat := Session.atHeader_iff.2 ⟨hopen, hkind, hbx, hst⟩
      exact ⟨_, exec_busExchange_hdr (Session.onBus_eq_true hopen hkind) hst hbx _, headerArrives_due hat _,
        headerArrives_due hat _⟩
    · have hat := Session.atBody_iff.2 ⟨hopen, hkind, hbx, hst⟩
      exact ⟨_, exec_busExchange_body (Session.onBus_eq_true hopen hkind) hst hbx _, bodyArrives_due hat _⟩
  · subst payload
    refine ⟨?_, ?_, ?_, fun hS hF hE =>
      respond_eq_internal hopen hst hacq hck (Session.classStatus_reserved _ _ hE hS hF)⟩
    all_goals rintro rfl
    · exact respond_eq_internal hopen hst hacq hck (Session.classStatus_S _ rest)
    · exact respond_eq_internal hopen hst hacq hck (Session.classStatus_F _ rest)
    · exact respond_eq_internal hopen hst hacq hck (Session.classStatus_E _ rest)
  · rw [State.internal_classifying hopen hst]
    exact classifyBytes_due (Session.atClassify_iff.2 ⟨hopen, hst⟩) hacq
  · obtain ⟨hrx, helse⟩ := arrive_frame s bs
    refine ⟨⟨_, peerSends_due (Session.onStream_eq_true hopen hkind) bs, hrx, rfl, rfl, rfl, helse⟩,
      fun hst p horiginal hresend => ?_⟩
    have hat := Session.atStreamSend_iff.2 ⟨hopen, hkind, hst⟩
    obtain rfl := Session.txUnit_eq horiginal hresend
    rw [State.internal_stream_send hopen hst hkind]
    refine ⟨?_, ?_⟩
    all_goals rintro rfl
    · exact sendPacket_due hat
    · exact sendFramed_due hat
  · refine ⟨fun hst hbx hbs => ?_, fun hst hbx => ?_, fun hst hbx => ?_⟩
    · subst bs
      have hdue := writePacket_due (Session.atBusWrite_iff.2 ⟨hopen, hkind, hbx, hst⟩)
      rw [State.internal_bus_write hopen hst hkind hbx]
      exact ⟨hdue, hdue⟩
    · exact ⟨_, headerArrives_due (Session.atHeader_iff.2 ⟨hopen, hkind, hbx, hst⟩) bs,
        exec_busExchange_hdr (Session.onBus_eq_true hopen hkind) hst hbx bs⟩
    · exact ⟨_, bodyArrives_due (Session.atBody_iff.2 ⟨hopen, hkind, hbx, hst⟩) bs,
        exec_busExchange_body (Session.onBus_eq_true hopen hkind) hst hbx bs⟩

end Sys2Proof
end

section
/-!
PROOFS. What a step fetches (log entries 1, 2 and 35), `RESET` (70_reset_and_hazards.md R380), the call with an argument
that cannot be rendered (60_exceptions.md R337), and `DECODE_RESPONSE` beside the classifier (41_packet_codec.md R169).
-/

namespace Sys2Proof.Machine

/-! ### The fetch -/

section
variable {s t : State}

theorem step_of_run {i : Instr} (h : fetch s = .run i t) : step s = exec i t := by
  rw [step, h]

theorem step_of_illegal {ch : Channel} {bs : Bytes} (h : fetch s = .illegal ch bs t) :
    step s = execIllegal ch bs t := by
  rw [step, h]

theorem step_of_environment (h : fetch s = .environment t) : step s = .next t := by
  rw [step, h]

theorem step_of_engine (h : fetch s = .engine t) : step s = .next t.internal := by
  rw [step, h]

theorem step_congr (h : fetch s = fetch t) : step s = step t := by
  rw [step, step, h]

theorem fetchUnit_ok {ch : Channel} {bs : Bytes} {i : Instr} (h : decode s.cfg ch bs = .ok i) :
    fetchUnit ch bs s = .run i s := by
  rw [fetchUnit, h]

theorem fetchUnit_error {ch : Channel} {bs : Bytes} {e : DecodeReject} (h : decode s.cfg ch bs = .error e) :
    fetchUnit ch bs s = .illegal ch bs s := by
  rw [fetchUnit, h]

variable {sid : SessId} {rest : List Input}

theorem fetch_op {i : Instr} (h : s.agenda = .op sid i :: rest) : fetch s = fetchTerm i (s.select sid rest) := by
  rw [fetch, h]

theorem fetch_unit {ch : Channel} {bs : Bytes} (h : s.agenda = .unit sid ch bs :: rest) :
    fetch s = fetchUnit ch bs (s.select sid rest) := by
  rw [fetch, h]

/-- A unit put in front of the agenda for the current session is fetched on the state itself. -/
theorem fetch_withUnit (s : State) (ch : Channel) (bs : Bytes) : fetch (s.withUnit ch bs) = fetchUnit ch bs s := rfl

end

/-- An operation has no fields that could be ill formed. -/
theorem Instr.encode_of_illFormed {c : Config} {i : Instr} (h : i.wellFormed c = false) :
    ∃ ch bs, encode c i = some (ch, bs) := by
  cases i with
  | pkt | wireS | wireBReq | busHdr | busHdrNak | wireBBody | reqS | reqB | respS | respF | respE | respReserved
  | rqResend => exact ⟨_, _, rfl⟩
  | _ => cases h

/-! ### `DECODE_RESPONSE` and the classifier -/

theorem exec_decodeResponse (packet : Bytes) (s : State) :
    exec (.decodeResponse packet) s = .next ((s.runVerify packet).setReply (.response (decodeResponse packet))) := rfl

/-- What the classifier does with the frame `p` where `DECODE_RESPONSE` answers this. -/
def Response.Class (c : Config) (p : Bytes) (se : Session) : Response → Prop
  | .invalid => se.classFrame c p = { se with ckOk := false }.class2 c
  | .nak => se.classFrame c p = { se with ckOk := true }.class3 c
  | .ok v => ∃ payload, v = parseS payload ∧ se.classFrame c p = { se with ckOk := true }.class4 payload
  | .remoteFail m => ∃ payload, m = parseF payload ∧ se.classFrame c p = { se with ckOk := true }.class5 payload
  | .badHeader _ => se.classFrame c p = { se with ckOk := true }.class6

/-- Both test the checksum first and then the status byte. -/
theorem decodeResponse_class (c : Config) (p : Bytes) (se : Session) : (decodeResponse p).Class c p se := by
  cases hverify : verify p with
  | false =>
    rw [decodeResponse, hverify]
    simp [Response.Class, Session.classFrame, hverify]
  | true =>
    obtain ⟨hi, lo, payload, rfl, hne, -⟩ := (verify_eq_true_iff p).1 hverify
    obtain ⟨b, rest, rfl⟩ := List.exists_cons_of_ne_nil hne
    have hclass : se.classFrame c (hi :: lo :: b :: rest) = { se with ckOk := true }.classStatus c (b :: rest) := by
      simp [Session.classFrame, hverify, payloadOf, ckLen]
    have hanswer : decodeResponse (hi :: lo :: b :: rest) = responseOfPayload (b :: rest) := by
      rw [decodeResponse, hverify]
      rfl
    rw [hanswer, responseOfPayload]
    rw [Session.classStatus] at hclass
    split_ifs at hclass ⊢ with hE hS hF
    · exact hclass
    · exact ⟨_, rfl, hclass⟩
    · exact ⟨_, rfl, hclass⟩
    · exact hclass

theorem State.internal_frame {s : State} {p : Bytes} (hopen : s.sess.isOpen = true) (hst : s.sess.st = .classifying)
    (hacq : s.sess.acq = .frame p) :
    s.internal = (s.runVerify p).leaveClassifying (s.sess.classFrame s.cfg p) := by
  rw [State.internal_classifying hopen hst, State.classifyStep, State.checkAcquired_frame hacq, Session.classify, hacq]

/-- An error raised ends the call in the same step. -/
theorem State.leaveClassifying_raiseError (s : State) (se : Session) (cls : TraceClass) (tag : ErrTag) (d : Bytes) :
    (s.leaveClassifying (se.raiseError cls tag d)).sess.st = .idle ∧
      (s.leaveClassifying (se.raiseError cls tag d)).sess.result = .err tag se.addr d ∧
      (s.leaveClassifying (se.raiseError cls tag d)).reply = .raised tag se.addr d := by
  rw [State.leaveClassifying_raised (Session.raiseError_st ..), State.sess_endCall]
  exact ⟨rfl, rfl, rfl⟩

end Sys2Proof.Machine

namespace Sys2Proof
open Machine

/-- Settles O4: the head of the agenda chooses what is fetched, and the step runs it. -/
theorem stepRunsWhatIsFetched : Obligations.StepRunsWhatIsFetched := by
  unfold Obligations.StepRunsWhatIsFetched
  refine fun s => ⟨fun sid i rest hagenda hwell => ?_, fun sid i rest hagenda hill => ?_,
    fun sid ch bs rest e hagenda hdecode => ?_, fun nbits w e hdecode => ?_, fun sid ch bs rest i hagenda hdecode => ?_,
    fun nbits w i hdecode => ?_, fun sid rest hagenda => ?_, fun hagenda => ?_, fun l bs rest hagenda => ?_,
    fun l n rest hagenda => ?_⟩
  · exact step_of_run ((fetch_op hagenda).trans (if_pos hwell))
  · obtain ⟨ch, bs, hencode⟩ := Instr.encode_of_illFormed hill
    refine ⟨ch, bs, hencode, step_congr ?_⟩
    rw [fetch_op hagenda, fetch_unit rfl, fetchTerm, State.select_cfg, hill, hencode]
    rfl
  · exact step_of_illegal ((fetch_unit hagenda).trans (fetchUnit_error hdecode))
  · exact step_of_illegal ((fetch_withUnit s _ _).trans (fetchUnit_error hdecode))
  · exact step_of_run ((fetch_unit hagenda).trans (fetchUnit_ok hdecode))
  · exact step_of_run ((fetch_withUnit s _ _).trans (fetchUnit_ok hdecode))
  · exact step_of_engine (by rw [fetch, hagenda])
  · exact step_of_engine (by rw [fetch, hagenda])
  · exact step_of_environment (by rw [fetch, hagenda])
  · exact step_of_environment (by rw [fetch, hagenda])

/-- Settles O50: the step writes the registers of the state after reset. -/
theorem resetRestoresEveryRegister : Obligations.ResetRestoresEveryRegister := by
  unfold Obligations.ResetRestoresEveryRegister
  exact fun s => ⟨_, rfl, rfl, rfl, fun _ => ⟨rfl, rfl⟩, fun _ => ⟨_, _, _, rfl⟩, rfl, rfl, rfl, rfl⟩

/-- Settles O20: the answer is the class the classifier gives the same frame. -/
theorem decodeResponseAgreesWithClassifier : Obligations.DecodeResponseAgreesWithClassifier := by
  unfold Obligations.DecodeResponseAgreesWithClassifier
  refine fun s p => ⟨_, exec_decodeResponse p s, fun hopen hst hacq => ?_⟩
  have hclass := decodeResponse_class s.cfg p s.sess
  rw [State.internal_frame hopen hst hacq]
  refine ⟨fun hr => ?_, fun hr => ?_, fun v hr => ?_, fun m hr => ?_, fun b hr => ?_⟩
  all_goals rw [hr] at hclass
  · change s.sess.classFrame s.cfg p = _ at hclass
    rw [hclass]
  · change s.sess.classFrame s.cfg p = _ at hclass
    rw [hclass]
  · obtain ⟨payload, rfl, hclass⟩ := hclass
    rw [hclass, State.leaveClassifying_goesOn (show RetryState.success ≠ .fatal from nofun), State.sess_setSess]
    exact ⟨rfl, rfl⟩
  · obtain ⟨payload, rfl, hclass⟩ := hclass
    rw [hclass]
    exact State.leaveClassifying_raiseError _ _ _ _ _
  · change s.sess.classFrame s.cfg p = _ at hclass
    rw [hclass]
    exact State.leaveClassifying_raiseError _ _ _ _ _

/-- Settles O45: the start of the call ends in its branch for a refusal, which writes back the registers it read. -/
theorem unencodableCallChangesNoRegister : Obligations.UnencodableCallChangesNoRegister := by
  unfold Obligations.UnencodableCallChangesNoRegister
  intro s fn args hopen hst hwaiting hlock hnonAscii
  refine ⟨s.startCall fn args, Config.freeDetail s.free, exec_call_starts hopen hst hwaiting hlock fn args, ?_,
    State.session_startCall_of_nonAscii hwaiting fn hnonAscii, ?_⟩
  · rw [State.startCall_of_nonAscii s fn hnonAscii]
    rfl
  · rw [State.startCall_of_nonAscii s fn hnonAscii]
    exact ⟨rfl, rfl, rfl, rfl, rfl, rfl, rfl, rfl, rfl, rfl⟩

end Sys2Proof
end

section
/-!
PROOFS. A call on a silent stream (43_retry_engine.md R232, R248 (h)): what one attempt does, and the run of attempts up
to `MAX_RETRIES`.
-/

namespace Sys2Proof.Machine

/-! ### One attempt -/

/-- In the checksum read a timeout and the end of the settle pause report no frame. -/
theorem State.silence {s : State} (hfs : s.sess.fs = .ck0) :
    s.onRxTimeout.onSettleDone.sess = { s.sess with rxBuf := [], fs := .idle, acq := .noFrame } ∧
      s.onRxTimeout.onSettleDone.cfg = s.cfg := by
  rw [State.onRxTimeout_eq_flushRecover (.inl hfs), State.onSettleDone_settle (by rw [State.sess_flushRecover]),
    State.sess_setSess, State.sess_flushRecover, State.setSess_cfg, State.flushIn_cfg,
    (sameElsewhere_flushRecover s).cfg]
  exact ⟨rfl, rfl⟩

/-- With the acquirer at rest and no frame the next two transitions come to class 1. -/
theorem State.internal_noFrame {s : State} (hopen : s.sess.isOpen = true) (hst : s.sess.st = .awaiting)
    (hidle : s.sess.acquirerIdle = true) (hacq : s.sess.acq = .noFrame) :
    s.internal.internal = s.internal.leaveClassifying (s.sess.acquired.class1 s.cfg) := by
  have hnext := State.internal_awaiting_idle hopen hst hidle
  have hsess : s.internal.sess = s.sess.acquired := by rw [hnext, State.sess_setSess]
  have hcfg : s.internal.cfg = s.cfg := by rw [hnext, State.setSess_cfg]
  rw [State.internal_classifying (s := s.internal) (by rw [hsess]; exact hopen) (by rw [hsess]; rfl),
    State.classifyStep, State.checkAcquired_noFrame (by rw [hsess]; exact hacq),
    Session.classify_noFrame _ (by rw [hsess]; exact hacq), hsess, hcfg]

/-- The registers of a session whose attempt on a silent stream is finished and not classified. -/
def Session.heardNothing (se : Session) : Session :=
  { se with
    rxBuf := [], termSeen := false, fs := .idle, acq := .noFrame, attempts := se.attempts + 1, st := .classifying }

theorem State.silentAttempt_eq {s : State} (hopen : s.sess.isOpen = true) (hkind : s.sess.kind = .stream)
    (hst : s.sess.st = .sending) : ∃ u : State, u.cfg = s.cfg ∧
      s.silentAttempt = u.leaveClassifying (s.sess.heardNothing.class1 s.cfg) := by
  have hsent : s.sendStream.sess = { s.sess.startAcquire with st := .awaiting } := State.sess_setSess _ _
  obtain ⟨hsess, hcfg⟩ := State.silence (s := s.sendStream) (by rw [hsent]; rfl)
  rw [hsent] at hsess
  have hidle : s.sendStream.onRxTimeout.onSettleDone.sess.acquirerIdle = true :=
    Session.acquirerIdle_eq_true (.inl (by rw [hsess]; exact ⟨hkind, rfl⟩))
  have hclass := State.internal_noFrame (by rw [hsess]; exact hopen) (by rw [hsess]) hidle (by rw [hsess])
  refine ⟨s.sendStream.onRxTimeout.onSettleDone.internal, ?_, ?_⟩
  · rw [State.internal_awaiting_idle (by rw [hsess]; exact hopen) (by rw [hsess]) hidle, State.setSess_cfg, hcfg]
    rfl
  · rw [State.silentAttempt, State.internal_stream_send hopen hst hkind, hclass, hsess, hcfg]
    rfl

/-- The registers after class 1, but for the record and what follows it. -/
def Session.missed (c : Config) (se : Session) : Session :=
  { se.heardNothing with readCrcErrors := bump c se.readCrcErrors, nNoframe := se.nNoframe + 1 }

section
variable {s : State} (hopen : s.sess.isOpen = true) (hkind : s.sess.kind = .stream) (hst : s.sess.st = .sending)
include hopen hkind hst

theorem State.silentAttempt_retries (hbudget : (s.sess.attempts + 1).toNat < s.cfg.maxRetries) :
    s.silentAttempt.cfg = s.cfg ∧ s.silentAttempt.sess
      = { (s.sess.missed s.cfg).selectOriginal.record .c1NoFrame .resendOriginal with st := .retry } := by
  obtain ⟨u, hcfg, heq⟩ := State.silentAttempt_eq hopen hkind hst
  rw [Session.class1, Session.retryOrFail_budget (decide_eq_true hbudget),
    State.leaveClassifying_goesOn (show RetryState.retry ≠ .fatal from nofun)] at heq
  rw [heq, State.sess_setSess, State.setSess_cfg]
  exact ⟨hcfg, rfl⟩

theorem State.silentAttempt_ends (hbudget : ¬ (s.sess.attempts + 1).toNat < s.cfg.maxRetries) :
    s.silentAttempt.cfg = s.cfg ∧ s.silentAttempt.lockOf s.sess.linkId = none ∧
      s.silentAttempt.reply = .raised .noResponse s.sess.addr detailNoResponse ∧ s.silentAttempt.sess
      = { (s.sess.missed s.cfg).raiseError .c1NoFrame .noResponse detailNoResponse with st := .idle } := by
  obtain ⟨u, hcfg, heq⟩ := State.silentAttempt_eq hopen hkind hst
  rw [Session.class1, Session.retryOrFail_exhausted (decide_eq_false hbudget),
    State.leaveClassifying_raised (Session.raiseError_st ..)] at heq
  rw [heq, State.sess_endCall]
  exact ⟨hcfg, u.lockOf_freeLock_same _, rfl, rfl⟩

end

/-! ### The run -/

/-- In `t`, `n` attempts of the call that `s` was about to send have been made, all on a silent stream. -/
structure Silent (s t : State) (n : Nat) : Prop where
  cfg : t.cfg = s.cfg
  connection : t.sess.connection = s.sess.connection
  attempts : t.sess.attempts.toNat = n
  trace : t.sess.trace.length = n
  classes : ∀ r ∈ t.sess.trace, r.cls = .c1NoFrame
  read : bump s.cfg t.sess.readCrcErrors = min (s.sess.readCrcErrors + (n + 1)) (2 ^ s.cfg.cntW - 1)
  write : t.sess.writeCrcErrors = s.sess.writeCrcErrors

/-- The call ends with the last attempt its budget allows. -/
structure SilentEnd (s t : State) : Prop where
  st : t.sess.st = .idle
  lock : t.lockOf s.sess.linkId = none
  result : t.sess.result = .err .noResponse s.sess.addr detailNoResponse
  reply : t.reply = .raised .noResponse s.sess.addr detailNoResponse

/-- `t` is where attempt `n` on a silent stream leaves the call. -/
structure SilentAfter (s t : State) (n : Nat) : Prop where
  silent : Silent s t n
  counted : t.sess.readCrcErrors = min (s.sess.readCrcErrors + n) (2 ^ s.cfg.cntW - 1)
  retries : n < s.cfg.maxRetries → t.sess.st = .retry
  ends : n = s.cfg.maxRetries → SilentEnd s t

theorem bump_min (c : Config) (a : Nat) :
    bump c (min a (2 ^ c.cntW - 1)) = min (a + 1) (2 ^ c.cntW - 1) := by
  unfold bump
  omega

section
variable {s t u : State} {n : Nat}

/-- What class 1 leaves of the counts, whatever it does next. -/
theorem Silent.next (h : Silent s t n) (hn : n < 15) (hcfg : u.cfg = s.cfg) {a : TraceAction} {sel : TxSel}
    {result : CallResult} {st : RetryState}
    (hsess : u.sess = { (t.sess.missed s.cfg).record .c1NoFrame a with txSel := sel, result := result, st := st }) :
    Silent s u (n + 1) where
  cfg := hcfg
  connection := by
    rw [hsess]
    exact h.connection
  attempts := by
    have hnext : u.sess.attempts = t.sess.attempts + 1 := by rw [hsess]; rfl
    rw [hnext, toNat_add_one (h.attempts.symm ▸ hn), h.attempts]
  trace := by
    rw [hsess]
    exact (List.length_append ..).trans (congrArg Nat.succ h.trace)
  classes := by
    rw [hsess]
    exact List.forall_mem_append.2 ⟨h.classes, List.forall_mem_singleton.2 rfl⟩
  read := by
    have hnext : u.sess.readCrcErrors = bump s.cfg t.sess.readCrcErrors := by rw [hsess]; rfl
    rw [hnext, h.read, bump_min]
    rfl
  write := by
    rw [hsess]
    exact h.write

theorem Silent.attempt (h : Silent s t n) (hmax : s.cfg.maxRetries ≤ 9) (hopen : s.sess.isOpen = true)
    (hkind : s.sess.kind = .stream) (hst : t.sess.st = .sending) (hn : n < s.cfg.maxRetries) :
    SilentAfter s t.silentAttempt (n + 1) := by
  obtain ⟨hopen', hkind', haddr, hlink⟩ := Connection.mk.inj h.connection
  rw [hopen] at hopen'
  rw [hkind] at hkind'
  have hroom : n < 15 := by omega
  have hattempts : (t.sess.attempts + 1).toNat = n + 1 := by rw [toNat_add_one (h.attempts.symm ▸ hroom), h.attempts]
  by_cases hbudget : n + 1 < s.cfg.maxRetries
  · obtain ⟨hcfg, hsess⟩ := State.silentAttempt_retries hopen' hkind' hst (by rw [hattempts, h.cfg]; exact hbudget)
    rw [h.cfg] at hcfg hsess
    refine ⟨h.next hroom hcfg hsess, ?_, fun _ => ?_, fun hlast => absurd hbudget (hlast ▸ lt_irrefl _)⟩
    · rw [hsess]
      exact h.read
    · rw [hsess]
  · obtain ⟨hcfg, hlock, hreply, hsess⟩ :=
      State.silentAttempt_ends hopen' hkind' hst (by rw [hattempts, h.cfg]; exact hbudget)
    rw [h.cfg] at hcfg hsess
    rw [hlink] at hlock
    rw [haddr] at hreply
    refine ⟨h.next hroom hcfg hsess, ?_, fun hmore => absurd hmore hbudget, fun _ => ⟨?_, hlock, ?_, hreply⟩⟩
    · rw [hsess]
      exact h.read
    · rw [hsess]
    · rw [hsess, ← haddr]
      rfl

/-- The retry after an attempt comes to the next send. -/
theorem SilentAfter.retry (h : SilentAfter s t n) (hopen : s.sess.isOpen = true) (hn : n < s.cfg.maxRetries) :
    Silent s t.internal n ∧ t.internal.sess.st = .sending := by
  obtain ⟨hcfg, hconnection, hattempts, htrace, hclasses, hread, hwrite⟩ := h.silent
  obtain ⟨hopen', -, -, -⟩ := Connection.mk.inj hconnection
  have hnext := State.internal_retry (hopen'.trans hopen) (h.retries hn)
  have hsess : t.internal.sess = { t.sess with st := .sending } := by rw [hnext, State.sess_setSess]
  refine ⟨⟨?_, ?_, ?_, ?_, ?_, ?_, ?_⟩, by rw [hsess]⟩
  · rw [hnext, State.setSess_cfg, hcfg]
  all_goals rw [hsess]; assumption

/-- By induction on the attempts still to make. -/
theorem Silent.attempts_after (h : Silent s t n) (hmax : s.cfg.maxRetries ≤ 9) (hopen : s.sess.isOpen = true)
    (hkind : s.sess.kind = .stream) (hst : t.sess.st = .sending) (k : Nat) (hk : n + (k + 1) ≤ s.cfg.maxRetries) :
    SilentAfter s (t.silentAttempts (k + 1)) (n + (k + 1)) := by
  induction k generalizing t n with
  | zero => exact h.attempt hmax hopen hkind hst hk
  | succ k ih =>
    have hafter := h.attempt hmax hopen hkind hst (by omega)
    obtain ⟨hsilent, hsending⟩ := hafter.retry hopen (by omega)
    have hrest := ih hsilent hsending (by omega)
    rwa [show n + 1 + (k + 1) = n + (k + 1 + 1) by omega] at hrest

theorem Silent.start (hattempts : s.sess.attempts = 0) (htrace : s.sess.trace = []) : Silent s s 0 where
  cfg := rfl
  connection := rfl
  attempts := by rw [hattempts]; rfl
  trace := by rw [htrace]; rfl
  classes := by rw [htrace]; exact nofun
  read := rfl
  write := rfl

end

end Sys2Proof.Machine

namespace Sys2Proof
open Machine

/-- Settles O59, by induction on the attempts: each is class 1, and the budget decides between a retry and the end. -/
theorem silentStreamEndsAfterMaxRetries : Obligations.SilentStreamEndsAfterMaxRetries := by
  unfold Obligations.SilentStreamEndsAfterMaxRetries
  intro s n hlegal hn hle hopen hkind hst hattempts htrace
  obtain ⟨k, rfl⟩ := Nat.exists_eq_add_of_le' hn
  obtain ⟨-, hmax⟩ := Config.maxRetries_range hlegal
  have hafter := (Silent.start hattempts htrace).attempts_after hmax hopen hkind hst k (by omega)
  rw [Nat.zero_add] at hafter
  obtain ⟨hsilent, hcounted, hretries, hends⟩ := hafter
  refine ⟨hsilent.attempts, hsilent.trace, hsilent.classes, hcounted, hsilent.write, hretries, fun hlast => ?_⟩
  obtain ⟨hidle, hlock, hresult, hreply⟩ := hends hlast
  exact ⟨hidle, hlock, hresult, hreply⟩

end Sys2Proof
end
